-- ==== Sys2Proof/Word.lean ====
section
/-! DEFINITION. The word types: the widths the spec gives registers (R11, R22 to R33), payload bytes (R39) and
the command word (R52). -/

namespace Sys2Proof

/-- A payload or stream byte: `u8` (R11, R39). -/
abbrev Byte := BitVec 8

/-- A 16-bit register, `u16` or `i16` (R11). -/
abbrev Half := BitVec 16

/-- A 32-bit register or operand field, `u32` or `i32` (R11, R52). -/
abbrev Word := BitVec 32

/-- A 64-bit register or result, `u64` or `i64` (R11, R54). -/
abbrev Quad := BitVec 64

/-- The command word: 72 bits, op [71:64], a [63:32], b [31:0] (R52). -/
abbrev CmdWord := BitVec 72

end Sys2Proof
end

