-- ==== Sys2Proof/Machine/Operands.lean ====
section
/-! DEFINITION. The operand forms of R53: how a command takes its operands from the fields a and b. "Bits that a
form does not name are ignored." No operand is scaled or shifted. -/

namespace Sys2Proof.Machine

/-- `U32(a)`, `U32(b)`: the whole field, unsigned (R53). -/
def operandU32 (field : Word) : Nat := field.toNat

/-- `S32(a)`, `S32(b)`: the whole field, two's complement (R53). -/
def operandS32 (field : Word) : Int := field.toInt

/-- `U16(a)`: a[15:0], unsigned (R53). -/
def operandU16 (field : Word) : Nat := (field.extractLsb' 0 16).toNat

/-- `S16H(a)`: a[31:16], two's complement (R53). -/
def operandS16H (field : Word) : Int := (field.extractLsb' 16 16).toInt

/-- `U8(a)`: a[7:0], unsigned (R53). -/
def operandU8 (field : Word) : Nat := (field.extractLsb' 0 8).toNat

/-- `BIT0(b)`: b[0] (R53). -/
def operandBit0 (field : Word) : Bool := field.getLsbD 0

end Sys2Proof.Machine
end

