-- ==== Sys2Proof/Syntax.lean ====
section
/-! DEFINITION. The commands: one constructor per row of spec/opcode_table.json (R55), with the operand values of
R53 as the mathematical integers the rules compute with (R11). -/

namespace Sys2Proof

/-- A command with its operands (R55). Operand ranges are those of the operand forms of R53: see
`Instr.wellFormed`. -/
inductive Instr where
  /-- 0x00 NOP (R162) -/
  | nop
  /-- 0x01 RESET (R163) -/
  | reset
  /-- 0x10 SECOND_TICK (R164) -/
  | secondTick
  /-- 0x11 PPS_CAPTURE tick = U32(a) (R141) -/
  | ppsCapture (tick : Nat)
  /-- 0x12 GPS_FEED byte = U8(a) (R88) -/
  | gpsFeed (byte : Nat)
  /-- 0x20 TB_SET_DATE week = U16(a), off = S16H(a), tow = U32(b) (R82) -/
  | tbSetDate (week : Nat) (off : Int) (tow : Nat)
  /-- 0x21 TB_TICK_TO_NS tick = U32(a) (R83) -/
  | tbTickToNs (tick : Nat)
  /-- 0x22 TB_ADVANCE (R84) -/
  | tbAdvance
  /-- 0x23 TB_TO_NTP tick = U32(a), fudge = S32(b) (R85) -/
  | tbToNtp (tick : Nat) (fudge : Int)
  /-- 0x24 TB_TO_UNIX (R86) -/
  | tbToUnix
  /-- 0x25 TB_GET_DATE (R87) -/
  | tbGetDate
  /-- 0x30 HM_SET_OSC s = U8(a) (R132) -/
  | hmSetOsc (code : Nat)
  /-- 0x31 HM_SET_GPS s = U8(a) (R133) -/
  | hmSetGps (code : Nat)
  /-- 0x32 HM_SET_PLL s = U8(a) (R134) -/
  | hmSetPll (code : Nat)
  /-- 0x33 HM_SET_FLL s = U8(a) (R135) -/
  | hmSetFll (code : Nat)
  /-- 0x34 HM_RESET_GPS_WDT (R136) -/
  | hmResetGpsWdt
  /-- 0x35 HM_RESET_FLL_WDT (R137) -/
  | hmResetFllWdt
  /-- 0x36 HM_UPDATE (R138) -/
  | hmUpdate
  /-- 0x37 HM_SHOULD_RUN (R139) -/
  | hmShouldRun
  /-- 0x38 HM_GET_STATUS (R140) -/
  | hmGetStatus
  /-- 0x40 CD_ENTER_HOLDOVER (R159) -/
  | cdEnterHoldover
  /-- 0x41 CD_LEAVE_HOLDOVER duration = U32(a) (R160) -/
  | cdLeaveHoldover (duration : Nat)
  /-- 0x42 CD_STEP phase = S32(a), gps_valid = BIT0(b) (R158) -/
  | cdStep (phase : Int) (gpsValid : Bool)
  /-- 0x50 CFG_WRITE reg = U16(a), value = U32(b) (R166) -/
  | cfgWrite (reg value : Nat)
  /-- 0x51 READ_REG reg = U16(a) (R168) -/
  | readReg (reg : Nat)
  /-- 0x52 READ_PB addr = U16(a) (R169) -/
  | readPb (addr : Nat)
  deriving DecidableEq, Repr

end Sys2Proof
end

