-- ==== Sys2Proof/Decode.lean ====
section
/-! DEFINITION. The decoder and the encoder of the command word (R52, R53, R55 to R58). Decoding looks at op
[71:64] alone (R57); a reserved op is rejected by name (R56, R172). -/

namespace Sys2Proof

/-- Why a word is no command: its op is a reserved value (R56). The block answers it with ERR_OPCODE (R172). -/
inductive DecodeError where
  | reservedOpcode (op : Byte)
  deriving DecidableEq, Repr

/-- Field op, bits [71:64] (R52). -/
def opField (w : CmdWord) : Byte := w.extractLsb' 64 8

/-- Field a, bits [63:32] (R52). -/
def fieldA (w : CmdWord) : Word := w.extractLsb' 32 32

/-- Field b, bits [31:0] (R52). -/
def fieldB (w : CmdWord) : Word := w.extractLsb' 0 32

/-- The command with opcode `op` and operand fields `a` and `b`: the opcode map of R55, the operand forms of R53.
Every op that the map does not assign is reserved (R56). -/
def decodeFields (op : Byte) (a b : Word) : Except DecodeError Instr :=
  match op.toNat with
  | 0x00 => .ok .nop
  | 0x01 => .ok .reset
  | 0x10 => .ok .secondTick
  | 0x11 => .ok (.ppsCapture (Machine.operandU32 a))
  | 0x12 => .ok (.gpsFeed (Machine.operandU8 a))
  | 0x20 => .ok (.tbSetDate (Machine.operandU16 a) (Machine.operandS16H a) (Machine.operandU32 b))
  | 0x21 => .ok (.tbTickToNs (Machine.operandU32 a))
  | 0x22 => .ok .tbAdvance
  | 0x23 => .ok (.tbToNtp (Machine.operandU32 a) (Machine.operandS32 b))
  | 0x24 => .ok .tbToUnix
  | 0x25 => .ok .tbGetDate
  | 0x30 => .ok (.hmSetOsc (Machine.operandU8 a))
  | 0x31 => .ok (.hmSetGps (Machine.operandU8 a))
  | 0x32 => .ok (.hmSetPll (Machine.operandU8 a))
  | 0x33 => .ok (.hmSetFll (Machine.operandU8 a))
  | 0x34 => .ok .hmResetGpsWdt
  | 0x35 => .ok .hmResetFllWdt
  | 0x36 => .ok .hmUpdate
  | 0x37 => .ok .hmShouldRun
  | 0x38 => .ok .hmGetStatus
  | 0x40 => .ok .cdEnterHoldover
  | 0x41 => .ok (.cdLeaveHoldover (Machine.operandU32 a))
  | 0x42 => .ok (.cdStep (Machine.operandS32 a) (Machine.operandBit0 b))
  | 0x50 => .ok (.cfgWrite (Machine.operandU16 a) (Machine.operandU32 b))
  | 0x51 => .ok (.readReg (Machine.operandU16 a))
  | 0x52 => .ok (.readPb (Machine.operandU16 a))
  | _ => .error (.reservedOpcode op)

/-- The command a 72-bit word stands for, or why it is none: total on every word (R52, R56, R57). -/
def decode (w : CmdWord) : Except DecodeError Instr :=
  decodeFields (opField w) (fieldA w) (fieldB w)

/-- The opcode of a command (R55). -/
def Instr.opcode : Instr → Byte
  | .nop => 0x00
  | .reset => 0x01
  | .secondTick => 0x10
  | .ppsCapture _ => 0x11
  | .gpsFeed _ => 0x12
  | .tbSetDate _ _ _ => 0x20
  | .tbTickToNs _ => 0x21
  | .tbAdvance => 0x22
  | .tbToNtp _ _ => 0x23
  | .tbToUnix => 0x24
  | .tbGetDate => 0x25
  | .hmSetOsc _ => 0x30
  | .hmSetGps _ => 0x31
  | .hmSetPll _ => 0x32
  | .hmSetFll _ => 0x33
  | .hmResetGpsWdt => 0x34
  | .hmResetFllWdt => 0x35
  | .hmUpdate => 0x36
  | .hmShouldRun => 0x37
  | .hmGetStatus => 0x38
  | .cdEnterHoldover => 0x40
  | .cdLeaveHoldover _ => 0x41
  | .cdStep _ _ => 0x42
  | .cfgWrite _ _ => 0x50
  | .readReg _ => 0x51
  | .readPb _ => 0x52

/-- The field a of a command's word, ignored bits 0 (R53, R55, R58). -/
def Instr.encodeA : Instr → Word
  | .ppsCapture tick => BitVec.ofNat 32 tick
  | .gpsFeed byte => BitVec.ofNat 32 byte
  | .tbSetDate week off _ => BitVec.ofInt 16 off ++ BitVec.ofNat 16 week
  | .tbTickToNs tick => BitVec.ofNat 32 tick
  | .tbToNtp tick _ => BitVec.ofNat 32 tick
  | .hmSetOsc code => BitVec.ofNat 32 code
  | .hmSetGps code => BitVec.ofNat 32 code
  | .hmSetPll code => BitVec.ofNat 32 code
  | .hmSetFll code => BitVec.ofNat 32 code
  | .cdLeaveHoldover duration => BitVec.ofNat 32 duration
  | .cdStep phase _ => BitVec.ofInt 32 phase
  | .cfgWrite reg _ => BitVec.ofNat 32 reg
  | .readReg reg => BitVec.ofNat 32 reg
  | .readPb addr => BitVec.ofNat 32 addr
  | .nop | .reset | .secondTick | .tbAdvance | .tbToUnix | .tbGetDate | .hmResetGpsWdt | .hmResetFllWdt
  | .hmUpdate | .hmShouldRun | .hmGetStatus | .cdEnterHoldover => 0

/-- The field b of a command's word, ignored bits 0 (R53, R55, R58). -/
def Instr.encodeB : Instr → Word
  | .tbSetDate _ _ tow => BitVec.ofNat 32 tow
  | .tbToNtp _ fudge => BitVec.ofInt 32 fudge
  | .cdStep _ gpsValid => if gpsValid then 1 else 0
  | .cfgWrite _ value => BitVec.ofNat 32 value
  | .nop | .reset | .secondTick | .ppsCapture _ | .gpsFeed _ | .tbTickToNs _ | .tbAdvance | .tbToUnix
  | .tbGetDate | .hmSetOsc _ | .hmSetGps _ | .hmSetPll _ | .hmSetFll _ | .hmResetGpsWdt | .hmResetFllWdt
  | .hmUpdate | .hmShouldRun | .hmGetStatus | .cdEnterHoldover | .cdLeaveHoldover _ | .readReg _ | .readPb _ => 0

/-- The word of a well-formed command, every ignored operand bit 0, as the assembler emits it (R52, R55, R58). -/
def encode (i : Instr) : CmdWord := i.opcode ++ (i.encodeA ++ i.encodeB)

/-- The host's reading of a table row: the command word is one 72-bit value whose bit 0 is its least significant
bit (R52), so the bits given are its low `nbits` bits and every bit above them is 0 (log entry 11). -/
def decodeTableWord (nbits w : Nat) : Option Instr :=
  match decode (BitVec.ofNat 72 (w % 2 ^ nbits)) with
  | .ok i => some i
  | .error _ => none

end Sys2Proof
end

