-- ==== Sys2Proof/Config.lean ====
section
/-! DEFINITION. What an instance of the block fixes (R9, R10), the constants the rules write as numbers, and the
free values: the two environment inputs of R17 where the host's record gives none. -/

namespace Sys2Proof

/-- The GPS wire protocol of an instance, chosen at build time (R3, R19). -/
inductive Protocol where
  | sirf
  | tsip
  | ubx
  deriving DecidableEq, Repr

/-- The TSIP checksum of an instance: `TSIP_CHECKSUM` (R9, R64). -/
inductive TsipChecksum where
  | none
  | add8
  deriving DecidableEq, Repr

/-- The build parameters of R9: "fixed per instance" and "arguments of the model". Which values an instance may
take is `Build.legal` (Machine/Ops.lean). -/
structure Build where
  /-- PROTOCOL (OPEN) -/
  protocol : Protocol
  /-- TICK_HZ, ticks per second (OPEN) -/
  tickHz : Nat
  /-- TIMER_PERIOD_NOMINAL, the timer period word for zero trim (OPEN) -/
  timerPeriodNominal : Int
  /-- MAX_PAYLOAD, bytes -/
  maxPayload : Nat
  /-- WEEK_SECONDS, seconds: what R22, R37, R77 to R82, R113, R115 and R117 write as 604800 (R10,
  log entry 14) -/
  weekSeconds : Nat
  /-- GPS_WDT_LIMIT, seconds -/
  gpsWdtLimit : Nat
  /-- FLL_WDT_LIMIT, seconds -/
  fllWdtLimit : Nat
  /-- JUMP_THRESHOLD_NS -/
  jumpThresholdNs : Nat
  /-- JUMP_CAP -/
  jumpCap : Nat
  /-- RESYNC_PHASE_NS -/
  resyncPhaseNs : Nat
  /-- RESYNC_JUMP_NS -/
  resyncJumpNs : Nat
  /-- PLL_HEALTHY_NS -/
  pllHealthyNs : Nat
  /-- FLL_SETTLE_S, steps -/
  fllSettleS : Nat
  /-- OSC_GRAN_PPT -/
  oscGranPpt : Nat
  /-- OSC_STEP_MAX_PPT -/
  oscStepMaxPpt : Nat
  /-- FACTOR_LIMIT -/
  factorLimit : Nat
  /-- FLL_RATE_LIMIT, ppt -/
  fllRateLimit : Nat
  /-- PHASE_FUDGE_LIMIT, ns -/
  phaseFudgeLimit : Nat
  /-- FLL_SMOOTHING -/
  fllSmoothing : Nat
  /-- PLL_RAMP_INTERVAL, steps -/
  pllRampInterval : Nat
  /-- FLL_RAMP_INTERVAL, steps -/
  fllRampInterval : Nat
  /-- PLL_STARTUP_S, steps -/
  pllStartupS : Nat
  /-- FILT_DIV_MIN -/
  filtDivMin : Nat
  /-- FILT_DIV_MAX -/
  filtDivMax : Nat
  /-- FILT_FRAC_BITS -/
  filtFracBits : Nat
  /-- PLL_CARRY_MAX, ppt -/
  pllCarryMax : Nat
  /-- TIMER_GRAN_PPT -/
  timerGranPpt : Nat
  /-- TIMER_TRIM_MAX, units -/
  timerTrimMax : Nat
  /-- HOLDOVER_ANNEAL_S, seconds -/
  holdoverAnnealS : Nat
  /-- PHASE_HISTORY_LEN, entries -/
  phaseHistoryLen : Nat
  /-- TSIP_CHECKSUM -/
  tsipChecksum : TsipChecksum
  /-- TSIP_UNLOCK_MINOR_MASK -/
  tsipUnlockMinorMask : Half
  /-- TSIP_FIXBLOCK_MINOR_MASK -/
  tsipFixblockMinorMask : Half
  /-- TSIP_MINOR_ALARM_MASK -/
  tsipMinorAlarmMask : Half
  deriving DecidableEq, Repr

/-- The instance the spec's vectors use (spec/95_test_vectors.md §0): every default of R9, TICK_HZ = 10000000.
DESIGN CHOICE (log entry 1): PROTOCOL = SIRF, TICK_HZ and TIMER_PERIOD_NOMINAL = 10000000 are OPEN in R9; no
statement rests on them. -/
def Build.standard : Build where
  protocol := .sirf
  tickHz := 10000000
  timerPeriodNominal := 10000000
  maxPayload := 256
  weekSeconds := 604800
  gpsWdtLimit := 3
  fllWdtLimit := 86400
  jumpThresholdNs := 1000
  jumpCap := 5
  resyncPhaseNs := 100000
  resyncJumpNs := 10000
  pllHealthyNs := 1000
  fllSettleS := 180
  oscGranPpt := 2
  oscStepMaxPpt := 2000
  factorLimit := 65535
  fllRateLimit := 1000000
  phaseFudgeLimit := 500000000
  fllSmoothing := 32
  pllRampInterval := 4
  fllRampInterval := 16
  pllStartupS := 16
  filtDivMin := 2
  filtDivMax := 8
  filtFracBits := 8
  pllCarryMax := 2
  timerGranPpt := 1
  timerTrimMax := 1
  holdoverAnnealS := 86400
  phaseHistoryLen := 16
  tsipChecksum := .add8
  tsipUnlockMinorMask := 0x0008
  tsipFixblockMinorMask := 0x0028
  tsipMinorAlarmMask := 0xFFFF

/-- gps_epoch_offset (R79): seconds from 1900-01-01 to the GPS epoch. -/
def Config.ntpEpochOffset : Nat := 2524953600

/-- The Unix offset (R80): seconds from 1970-01-01 to the GPS epoch. -/
def Config.unixEpochOffset : Nat := 315964800

/-- Reset value of CFG.pll_factor_min and CD.pll_factor: PLL_FACTOR_MIN (R9, R187). -/
def Config.pllFactorMin : Half := 64

/-- Reset value of CFG.pll_factor_max: PLL_FACTOR_MAX (R9, R187). -/
def Config.pllFactorMax : Half := 1024

/-- Reset value of CFG.fll_factor_min and CD.fll_factor: FLL_FACTOR_MIN (R9, R187). -/
def Config.fllFactorMin : Half := 8

/-- Reset value of CFG.fll_factor_max: FLL_FACTOR_MAX (R9, R187). -/
def Config.fllFactorMax : Half := 256

/-- Reset value of CFG.fll_rate_max: FLL_RATE_MAX (R9, R187). -/
def Config.fllRateMax : Word := 2000

/-- Reset value of CFG.discipline_enable: DISCIPLINE_ENABLE (R9, R187). -/
def Config.disciplineEnable : Bool := true

/-- Reset value of CFG.phase_fudge_ns: PHASE_FUDGE_NS (R9, R187). -/
def Config.phaseFudgeNs : Word := 0

/-- FREE VALUE (R17, R183, log entry 2): the oscillator driver's reply, an i32, to request number `k` of the
command with index `cmd`, where the host's record gives no reply. -/
opaque Config.oscReply (cmd k : Nat) (req : Int) : Word

/-- FREE VALUE (R17, R150, log entry 2): the dither draw, a u32, of the command with index `cmd`, where the host's
record gives none. -/
opaque Config.ditherDraw (cmd : Nat) : Word

end Sys2Proof
end

