-- ==== Sys2Proof/Machine/State.lean ====
section
/-! DEFINITION. The state of the block (spec/10_state.md, spec/20_memory.md), the reasons a step can stop, and the
state right after reset (R187). State is plain data. -/

namespace Sys2Proof.Machine

/-- SubStatus (R19, R27). MINOR_ALARM is legal only for the Gps sub-status. -/
inductive SubStatus where
  | unlock
  | ok
  | minorAlarm
  deriving DecidableEq, Repr

/-- SystemStatus (R19, R27). -/
inductive SystemStatus where
  | unlock
  | holdover
  | ok
  deriving DecidableEq, Repr

/-- The event GD.feed answers with (R19, R89). -/
inductive FeedEvent where
  | none
  | fix
  | status
  deriving DecidableEq, Repr

/-- The status of a response (R171). "No other status exists." -/
inductive Status where
  | ok
  | errOpcode
  | errRange
  deriving DecidableEq, Repr

/-- An outbound event (R182). -/
inductive Event where
  /-- OSC_RATE(req, applied), both i32 ppt -/
  | oscRate (req applied : Int)
  /-- TIMER_PERIOD(ticks) -/
  | timerPeriod (ticks : Int)
  /-- FORCE_RESYNC() -/
  | forceResync
  /-- PPS_ENABLE() -/
  | ppsEnable
  /-- PPS_DISABLE() -/
  | ppsDisable
  deriving DecidableEq, Repr

/-- The framing states of the SIRF machine (R24, column SIRF). -/
inductive SirfState where
  | sync1 | sync2 | len1 | len2 | payload | ck1 | ck2 | end1 | end2 | drain
  deriving DecidableEq, Repr

/-- The framing states of the TSIP machine (R24, column TSIP). -/
inductive TsipState where
  | idle | ident | data | dataDle
  deriving DecidableEq, Repr

/-- The framing states of the UBX machine (R24, column UBX). -/
inductive UbxState where
  | sync1 | sync2 | cls | ident | len1 | len2 | payload | ckA | ckB | drain
  deriving DecidableEq, Repr

/-- A store of `w`-bit cells held sparsely: (address, value) pairs, addresses strictly rising, no pair equal to what
an unlisted address reads as, which is 0 (R39, R42; log entry 9). The form is `Cells.wf` (Machine/Ops.lean). -/
abbrev Cells (w : Nat) := List (Nat × BitVec w)

/-- The payload buffer PB (R38, R39): its cells are bytes, `Host.Cell`. -/
abbrev Memory := Cells 8

/-- The phase-history ring PH (R38, R42): its cells are i32 entries. -/
abbrev Ring := Cells 32

/-- TimeBase registers (R22). -/
structure TimeBase where
  week : Half
  tow : Word
  dateSet : Bool
  deriving DecidableEq, Repr

/-- GpsDecoder registers: framing (R23), counters (R25), latches (R26). -/
structure GpsDecoder where
  state : Byte
  len : Half
  idx : Half
  cls : Byte
  id : Byte
  rx : Byte
  drain : Word
  ovf : Bool
  garbage : Word
  tooBig : Word
  cksErr : Word
  framingErr : Word
  unknown : Word
  good : Word
  fixValid : Bool
  alarm : SubStatus
  block : Bool
  utcKnown : Bool
  utcOffset : Half
  deriving DecidableEq, Repr

/-- HealthMonitor registers: statuses (R27), watchdogs (R28), side effects (R29). -/
structure HealthMonitor where
  system : SystemStatus
  osc : SubStatus
  gps : SubStatus
  pll : SubStatus
  fll : SubStatus
  gpsWdt : Word
  fllWdt : Word
  ppsEnabled : Bool
  reftime : Quad
  holdoverStart : Quad
  deriving DecidableEq, Repr

/-- ClockDiscipline registers (R30) and diagnostic counters (R31). Signed registers are read with `toInt`. -/
structure ClockDiscipline where
  prevPhase : Word
  prevValid : Bool
  jumpCounter : Byte
  filtQ : Quad
  filtValid : Bool
  filtered : Word
  pllAcc : Quad
  pllFactor : Half
  pllRamp : Word
  fllRate : Word
  fllAcc : Quad
  fllFactor : Half
  fllRamp : Word
  fllUpdates : Word
  oscLast : Word
  realizedLast : Quad
  secondsSinceReset : Word
  histHead : Byte
  histCount : Byte
  ditherLast : Byte
  resyncCount : Word
  jumpSubs : Word
  skipped : Word
  deriving DecidableEq, Repr

/-- Command-sequencing registers: the pending PPS sample (R32). -/
structure Sequencing where
  pendingValid : Bool
  pendingPhase : Word
  deriving DecidableEq, Repr

/-- Configuration registers (R33). Register 0x0505 is an alias of CD.fll_rate and has no storage here. -/
structure Configuration where
  pllFactorMin : Half
  pllFactorMax : Half
  fllFactorMin : Half
  fllFactorMax : Half
  fllRateMax : Word
  disciplineEnable : Bool
  phaseFudgeNs : Word
  deriving DecidableEq, Repr

/-- What the environment answers during one command (R17): the oscillator driver's replies to requests 0, 1, ...
and the dither draw. A value that is not given is free (log entry 2). -/
structure EnvInputs where
  oscReplies : List Word
  ditherU : Option Word
  deriving DecidableEq, Repr

/-- One command as the host presents it: its 72-bit word (R52) with the environment's answers to it (R17). -/
structure Request where
  word : CmdWord
  env : EnvInputs
  deriving DecidableEq, Repr

/-- The response of a command: status, r0, r1 (R54). -/
structure Response where
  status : Status
  r0 : Quad
  r1 : Word
  deriving DecidableEq, Repr

/-- The machine. The first eight fields are the block's registers and stores, `build` is the instance it was built
as (R9), and the rest is the host's side of the interface (log entries 2 to 4). -/
structure State where
  /-- TimeBase (R22) -/
  tb : TimeBase
  /-- GpsDecoder (R23 to R26) -/
  gd : GpsDecoder
  /-- HealthMonitor (R27 to R29) -/
  hm : HealthMonitor
  /-- ClockDiscipline (R30, R31) -/
  cd : ClockDiscipline
  /-- the pending sample (R32) -/
  sys : Sequencing
  /-- configuration (R33) -/
  cfg : Configuration
  /-- the payload buffer PB (R39) -/
  pb : Memory
  /-- the phase-history ring PH (R42) -/
  ph : Ring
  /-- the instance (R9): no command changes it -/
  build : Build
  /-- the command index (R20): how many commands the block has taken -/
  cmdIndex : Nat
  /-- the commands presented and not yet taken, oldest first (log entry 3) -/
  pending : List Request
  /-- the environment inputs of the command being run (R17, log entry 2) -/
  env : EnvInputs
  /-- the index k of the command's next OSC_RATE request (R17, R151) -/
  oscIdx : Nat
  /-- the response of the last command (R54, log entry 4) -/
  resp : Response
  /-- the ordered event list of the last command (R54, R182, log entry 4) -/
  events : List Event
  deriving DecidableEq, Repr

/-- Why a step stops. The spec has no fault mechanism (R176): each of these stands for a state that breaks R37's
invariants, where the spec gives the rule no meaning. No run of an instance that meets `Build.fits` reaches one (log
entry 7); an instance that R9 admits outside those bounds can reach zeroDivisor (log entry 20). All are safe: the model
stops where the rules give no next state. -/
inductive Fault where
  /-- GPS_FEED in a state whose GD.state is outside its protocol's column of R24. Safe. -/
  | framingState (code : Nat)
  /-- GPS_FEED at a PB address above MAX_PAYLOAD, which R39 says no rule forms. Safe. -/
  | pbAddress (addr : Nat)
  /-- A discipline step that pushes at a ring slot at or beyond PHASE_HISTORY_LEN (R42). Safe. -/
  | phSlot (slot : Nat)
  /-- A discipline step whose divisor (CD.pll_factor, or CD.fll_factor · FLL_SMOOTHING) is 0, for which `tdiv` and
  `mod` are not defined (R12, R33). An instance that R9 admits outside `Build.fits`, such as FACTOR_LIMIT = 65536, can
  reach it (log entry 20). Safe. -/
  | zeroDivisor
  deriving DecidableEq, Repr

/-- Why a step has no meaning. -/
inductive Refusal where
  /-- An instruction that has no meaning yet: raised by exec's refused arms only. Safe. -/
  | notModelled (mnemonic : String)
  /-- The instance breaks a constraint of R9: "An instance that breaks one of these is refused: the model has no
  meaning for it." Raised by step. Safe (log entry 5). -/
  | illegalInstance
  deriving DecidableEq, Repr

/-- The block after power-on, built as `b` (R187, R189): every register at the reset column of its table, PB and PH
all 0, nothing emitted; and no command presented yet (log entries 3, 4). -/
def State.powerOn (b : Build) : State where
  tb := { week := 0, tow := 0, dateSet := false }
  gd := { state := 0, len := 0, idx := 0, cls := 0, id := 0, rx := 0, drain := 0, ovf := false,
          garbage := 0, tooBig := 0, cksErr := 0, framingErr := 0, unknown := 0, good := 0,
          fixValid := false, alarm := .unlock, block := false, utcKnown := false, utcOffset := 0 }
  hm := { system := .unlock, osc := .unlock, gps := .unlock, pll := .unlock, fll := .unlock,
          gpsWdt := 0, fllWdt := 0, ppsEnabled := false, reftime := 0, holdoverStart := 0 }
  cd := { prevPhase := 0, prevValid := false, jumpCounter := 0, filtQ := 0, filtValid := false,
          filtered := 0, pllAcc := 0, pllFactor := Config.pllFactorMin, pllRamp := 0, fllRate := 0,
          fllAcc := 0, fllFactor := Config.fllFactorMin, fllRamp := 0, fllUpdates := 0, oscLast := 0,
          realizedLast := 0, secondsSinceReset := 0, histHead := 0, histCount := 0, ditherLast := 0,
          resyncCount := 0, jumpSubs := 0, skipped := 0 }
  sys := { pendingValid := false, pendingPhase := 0 }
  cfg := { pllFactorMin := Config.pllFactorMin, pllFactorMax := Config.pllFactorMax,
           fllFactorMin := Config.fllFactorMin, fllFactorMax := Config.fllFactorMax,
           fllRateMax := Config.fllRateMax, disciplineEnable := Config.disciplineEnable,
           phaseFudgeNs := Config.phaseFudgeNs }
  pb := []
  ph := []
  build := b
  cmdIndex := 0
  pending := []
  env := { oscReplies := [], ditherU := none }
  oscIdx := 0
  resp := { status := .ok, r0 := 0, r1 := 0 }
  events := []

/-- The machine right after reset (R187), as the instance `Build.standard` (log entry 1). -/
def State.reset : State := State.powerOn Build.standard

end Sys2Proof.Machine
end

