-- ==== Sys2Proof/Machine/Ops.lean ====
section
/-! DEFINITION. The named operations every meaning is written over: the arithmetic primitives of R12, the stores PB
and PH (R39, R40, R42), the update of each unit, the environment inputs (R17), events (R15, R182), the response
(R54) and the rejection of a command, which plays the part of taking an exception (R171 to R176). -/

namespace Sys2Proof

/-! ## Instances (R9) -/

/-- The constraints R9 puts on the build parameters, TICK_HZ's range among them (D59). -/
def Build.legal (b : Build) : Bool :=
  decide (1 ≤ b.tickHz ∧ b.tickHz ≤ 2 ^ 32 - 1
    ∧ 1 ≤ b.filtDivMin ∧ b.filtDivMin ≤ b.filtDivMax
    ∧ 1 ≤ b.fllSmoothing
    ∧ 1 ≤ b.pllRampInterval ∧ 1 ≤ b.fllRampInterval
    ∧ 1 ≤ b.oscGranPpt ∧ b.oscGranPpt % 2 = 0
    ∧ 1 ≤ b.timerGranPpt
    ∧ 1 ≤ b.holdoverAnnealS
    ∧ 1 ≤ b.phaseHistoryLen ∧ b.phaseHistoryLen ≤ 255
    ∧ 1 ≤ b.jumpCap ∧ b.jumpCap ≤ 255
    ∧ 1 ≤ b.gpsWdtLimit ∧ 1 ≤ b.fllWdtLimit)

end Sys2Proof

namespace Sys2Proof.Machine

/-! ## Arithmetic primitives (R12) -/

/-- `tdiv(a, b)`: division truncating toward zero, for b ≠ 0 (R12). -/
def tdiv (a b : Int) : Int := Int.tdiv a b

/-- `fdiv(a, b)`: floor division, for b > 0 (R12). -/
def fdiv (a b : Int) : Int := a / b

/-- `clamp(v, lo, hi)` (R12). -/
def clamp (v lo hi : Int) : Int := if v < lo then lo else if hi < v then hi else v

/-- `rnd_half_up(v, g)`: v rounded to the nearest multiple of g, ties toward +∞, for g ≥ 1 (R12). -/
def rndHalfUp (v g : Int) : Int := g * fdiv (v + fdiv g 2) g

/-- `sat_inc32(v)` = min(v + 1, 2^32 − 1) (R12). -/
def satInc32 (v : Word) : Word := BitVec.ofNat 32 (min (v.toNat + 1) (2 ^ 32 - 1))

/-- `c <- wrap32(c + k)`: a counter that wraps (R25, R31, R89). -/
def wrapAdd32 (c : Word) (k : Nat) : Word := c + BitVec.ofNat 32 k

/-- `wrap64(v)`: a result as the 64-bit pattern of r0 (R12, R54). -/
def wrap64 (v : Int) : Quad := BitVec.ofInt 64 v

/-- A boolean reads as 0 or 1 (R21). -/
def boolCode (b : Bool) : Int := if b then 1 else 0

/-! ## Stores (R38, R39, R42) -/

/-- The cell at an address; an address that is not listed reads 0, its reset content (R39, R42; log entry 9). -/
def Cells.read {w : Nat} : Cells w → Nat → BitVec w
  | [], _ => 0
  | (k, v) :: m, a => if k = a then v else Cells.read m a

/-- The store with the cell at `a` set to `v`, in canonical form. -/
def Cells.write {w : Nat} : Cells w → Nat → BitVec w → Cells w
  | [], a, v => if v = 0 then [] else [(a, v)]
  | (k, x) :: m, a, v =>
    if a < k then (if v = 0 then (k, x) :: m else (a, v) :: (k, x) :: m)
    else if a = k then (if v = 0 then m else (a, v) :: m)
    else (k, x) :: Cells.write m a v

/-- The canonical form: addresses strictly rising, no cell equal to what an unlisted address reads as. -/
def Cells.wf {w : Nat} : Cells w → Bool
  | [] => true
  | (k, v) :: m => decide (v ≠ 0) && m.all (fun c => decide (k < c.1)) && Cells.wf m

/-- The canonical form of PB. -/
abbrev Memory.wf (m : Memory) : Bool := Cells.wf m

/-- Every listed address of the store lies below `n`. -/
def Cells.below {w : Nat} (m : Cells w) (n : Nat) : Bool := m.all (fun c => decide (c.1 < n))

/-! ## One update per unit -/

/-- The state with TimeBase replaced. -/
def State.withTb (s : State) (x : TimeBase) : State := { s with tb := x }

/-- The state with GpsDecoder replaced. -/
def State.withGd (s : State) (x : GpsDecoder) : State := { s with gd := x }

/-- The state with HealthMonitor replaced. -/
def State.withHm (s : State) (x : HealthMonitor) : State := { s with hm := x }

/-- The state with ClockDiscipline replaced. -/
def State.withCd (s : State) (x : ClockDiscipline) : State := { s with cd := x }

/-- The state with the pending sample replaced. -/
def State.withSys (s : State) (x : Sequencing) : State := { s with sys := x }

/-- The state with the configuration replaced. -/
def State.withCfg (s : State) (x : Configuration) : State := { s with cfg := x }

/-- `MemWrite(addr, 1, v)` on PB (R14, R39). -/
def State.writePb (s : State) (addr : Nat) (v : Byte) : State := { s with pb := Cells.write s.pb addr v }

/-- `PH[i] <- v` (R14, R42). -/
def State.writePh (s : State) (i : Nat) (v : Word) : State := { s with ph := Cells.write s.ph i v }

/-! ## Events, response, rejection -/

/-- `emit E(args)`: append to the command's ordered event list (R15). -/
def State.emit (s : State) (e : Event) : State := { s with events := s.events ++ [e] }

/-- The start of a command: no event yet, no request made yet, an empty response (R17, R54). -/
def State.start (s : State) : State :=
  { s with events := [], oscIdx := 0, resp := { status := .ok, r0 := 0, r1 := 0 } }

/-- The end of a command that ran: status OK with its result fields; a command that defines none returns 0 in both
(R54). -/
def State.answer (s : State) (r0 : Quad) (r1 : Word) : State :=
  { s with resp := { status := .ok, r0 := r0, r1 := r1 } }

/-- The code of a status (R171). -/
def Status.code : Status → Nat
  | .ok => 0
  | .errOpcode => 1
  | .errRange => 2

/-- TAKING AN EXCEPTION: the rejection of a command, `raise ERR_OPCODE` and `raise ERR_RANGE` (R15, R171 to R174).
Every register, PB and PH stay as they were; no event; r0 = r1 = 0. Nothing else is saved and there is no return
from it: the next command runs normally (R176). -/
def State.reject (s : State) (st : Status) : State :=
  { s.start with resp := { status := st, r0 := 0, r1 := 0 } }

/-! ## Environment inputs (R17, R183) -/

/-- `env.osc_reply(k, req)` for the command's next request: what the host's record gives as reply k, or else a
free value (log entry 2). -/
def State.oscReply (s : State) (req : Int) : Int :=
  match s.env.oscReplies[s.oscIdx]? with
  | some r => r.toInt
  | none => (Config.oscReply s.cmdIndex s.oscIdx req).toInt

/-- `k <- k + 1` (R151). -/
def State.nextOscIdx (s : State) : State := { s with oscIdx := s.oscIdx + 1 }

/-- `env.dither_u`, one draw per command (R17, R183): the host's record, or else a free value (log entry 2). -/
def State.ditherU (s : State) : Nat :=
  match s.env.ditherU with
  | some u => u.toNat
  | none => (Config.ditherDraw s.cmdIndex).toNat

/-! ## Payload field readers (R40) -/

/-- `u8(i)` (R40). -/
def State.u8 (s : State) (i : Nat) : Nat := (Cells.read s.pb i).toNat

/-- `s8(i)` (R40). -/
def State.s8 (s : State) (i : Nat) : Int := (Cells.read s.pb i).toInt

/-- `be16(i)`, big-endian (R40). -/
def State.be16 (s : State) (i : Nat) : Nat := 2 ^ 8 * s.u8 i + s.u8 (i + 1)

/-- `be32(i)`, big-endian (R40). -/
def State.be32 (s : State) (i : Nat) : Nat :=
  2 ^ 24 * s.u8 i + 2 ^ 16 * s.u8 (i + 1) + 2 ^ 8 * s.u8 (i + 2) + s.u8 (i + 3)

/-- `le16(i)`, little-endian (R40). -/
def State.le16 (s : State) (i : Nat) : Nat := s.u8 i + 2 ^ 8 * s.u8 (i + 1)

/-- `le32(i)`, little-endian (R40). -/
def State.le32 (s : State) (i : Nat) : Nat :=
  s.u8 i + 2 ^ 8 * s.u8 (i + 1) + 2 ^ 16 * s.u8 (i + 2) + 2 ^ 24 * s.u8 (i + 3)

/-- `sext_16(v)` of a 16-bit pattern (R12). -/
def sext16 (v : Nat) : Int := if v < 2 ^ 15 then v else (v : Int) - 2 ^ 16

/-- `sbe16(i)` (R40). -/
def State.sbe16 (s : State) (i : Nat) : Int := sext16 (s.be16 i)

/-- `sle16(i)` (R40). -/
def State.sle16 (s : State) (i : Nat) : Int := sext16 (s.le16 i)

/-- The bytes PB[0], ..., PB[n − 1]. -/
def State.pbBytes (s : State) (n : Nat) : List Byte := (List.range n).map (Cells.read s.pb)

/-! ## The phase-history ring (R42) -/

/-- `push(v)` (R42). The caller checks that the slot CD.hist_head is in the ring (`Fault.phSlot`). -/
def State.pushPh (s : State) (v : Word) : State :=
  let t := s.writePh s.cd.histHead.toNat v
  t.withCd { t.cd with
    histHead := BitVec.ofNat 8 ((s.cd.histHead.toNat + 1) % s.build.phaseHistoryLen),
    histCount := BitVec.ofNat 8 (min (s.cd.histCount.toNat + 1) s.build.phaseHistoryLen) }

/-- `entry(j)`, j = 0 the newest, legal for j < CD.hist_count (R42). -/
def State.phEntry (s : State) (j : Nat) : Word :=
  Cells.read s.ph (((s.cd.histHead.toNat : Int) - 1 - j) % (s.build.phaseHistoryLen : Int)).toNat

end Sys2Proof.Machine
end

