-- ==== Sys2Proof/Machine/Flags.lean ====
section
/-! DEFINITION. What plays the part of flags (R35): the enumeration codes (R19), the sub-status operand, the
transition table of the system status (R125), the discipline gate (R130), the Gps sub-status the decoder reports
(R112) and the packed status word (R75). The block has no condition codes. -/

namespace Sys2Proof

/-- The code of a protocol (R19). -/
def Protocol.code : Protocol → Nat
  | .sirf => 0
  | .tsip => 1
  | .ubx => 2

/-- The code of a TSIP checksum setting, as ID.tsip_checksum reads (R34). -/
def TsipChecksum.code : TsipChecksum → Nat
  | .none => 0
  | .add8 => 1

end Sys2Proof

namespace Sys2Proof.Machine

/-- The code of a SubStatus (R19). -/
def SubStatus.code : SubStatus → Nat
  | .unlock => 0
  | .ok => 1
  | .minorAlarm => 2

/-- The SubStatus of a code, for the codes up to `top`: 1 for Osc, Pll and Fll, 2 for Gps (R132 to R135, R173). -/
def SubStatus.ofCode? (top code : Nat) : Option SubStatus :=
  if top < code then none
  else match code with
    | 0 => some .unlock
    | 1 => some .ok
    | 2 => some .minorAlarm
    | _ => none

/-- The code of a SystemStatus (R19). -/
def SystemStatus.code : SystemStatus → Nat
  | .unlock => 0
  | .holdover => 1
  | .ok => 2

/-- The code of a feed event (R19, R88). -/
def FeedEvent.code : FeedEvent → Nat
  | .none => 0
  | .fix => 1
  | .status => 2

/-- The transition table of HM.update: the five rows in printed order, the first that matches; no row leaves the
state unchanged (R125). -/
def nextSystem (S : SystemStatus) (osc gps pll fll : SubStatus) : SystemStatus :=
  if S = .ok ∧ gps = .unlock ∧ fll = .ok then .holdover
  else if S = .ok ∧ gps = .unlock then .unlock
  else if S = .holdover ∧ fll = .unlock then .unlock
  else if S ≠ .ok ∧ (pll = .unlock ∨ osc = .unlock) then .unlock
  else if S ≠ .ok ∧ pll = .ok ∧ gps = .ok ∧ osc = .ok then .ok
  else S

/-- `HM.should_run_discipline()` (R130). -/
def shouldRunDiscipline (hm : HealthMonitor) : Bool :=
  match hm.system with
  | .ok => true
  | .holdover => false
  | .unlock => decide (hm.gps = .ok) && decide (hm.osc = .ok)

/-- `GD.combine()`: the Gps sub-status reported to HealthMonitor (R112). -/
def combineGps (gd : GpsDecoder) : SubStatus := if gd.fixValid then gd.alarm else .unlock

/-- The packed status word of HM_GET_STATUS (R75, R140). -/
def packedStatus (hm : HealthMonitor) : Nat :=
  hm.system.code + 2 ^ 8 * hm.osc.code + 2 ^ 16 * hm.gps.code + 2 ^ 24 * hm.pll.code + 2 ^ 32 * hm.fll.code
    + 2 ^ 40 * (if hm.ppsEnabled then 1 else 0)

end Sys2Proof.Machine
end

