-- ==== Sys2Proof/Machine/TimeBase.lean ====
section
/-! DEFINITION. TimeBase (spec/40_timebase.md): the internal operations of R76 to R80 and the commands TB_* of R82
to R87. -/

namespace Sys2Proof.Machine

/-! ## Internal operations -/

/-- `TB.tick(tick)`: a tick count to a phase offset in ns, fudge added, folded once (R76). -/
def tbTick (s : State) (tick : Nat) : Int :=
  let ns0 := fdiv (10 ^ 9 * (tick : Int)) s.build.tickHz
  let v := ns0 + s.cfg.phaseFudgeNs.toInt
  if 500000000 < v then v - 1000000000 else v

/-- `TB.set_date(week, tow, off)`: the borrow of the document and the matching carry (R77). -/
def tbSetDate (week : Nat) (tow : Nat) (off : Int) (s : State) : State :=
  let t : Int := tow + off
  let wk : Int := s.build.weekSeconds
  if t < 0 then
    s.withTb { week := BitVec.ofInt 16 ((week : Int) - 1), tow := BitVec.ofInt 32 (t + wk), dateSet := true }
  else if wk ≤ t then
    s.withTb { week := BitVec.ofInt 16 ((week : Int) + 1), tow := BitVec.ofInt 32 (t - wk), dateSet := true }
  else
    s.withTb { week := BitVec.ofInt 16 (week : Int), tow := BitVec.ofInt 32 t, dateSet := true }

/-- `TB.advance()` (R78). -/
def tbAdvance (s : State) : State :=
  let t := s.tb.tow.toNat + 1
  if t = s.build.weekSeconds then
    s.withTb { s.tb with week := s.tb.week + 1, tow := 0 }
  else
    s.withTb { s.tb with tow := BitVec.ofNat 32 t }

/-- The running date in seconds since the GPS epoch, WEEK_SECONDS · week + tow (R79, R80). -/
def tbSeconds (s : State) : Nat := s.build.weekSeconds * s.tb.week.toNat + s.tb.tow.toNat

/-- `TB.to_ntp(tick, fudge)`: seconds in [63:32], fraction in [31:0], wrapped mod 2^64 (R79). -/
def tbToNtp (s : State) (tick : Nat) (fudge : Int) : Quad :=
  let secs : Int := Config.ntpEpochOffset + tbSeconds s
  let frac := fdiv (2 ^ 32 * (tick : Int)) s.build.tickHz
  wrap64 (2 ^ 32 * secs + frac + fudge)

/-- `TB.to_unix()` (R80). -/
def tbToUnix (s : State) : Int := Config.unixEpochOffset + tbSeconds s

/-! ## Commands -/

/-- TB_SET_DATE (R82). -/
def execTbSetDate (week : Nat) (off : Int) (tow : Nat) (s : State) : Host.Outcome State Fault Refusal :=
  if s.build.weekSeconds ≤ tow then .next (s.reject .errRange)
  else .next ((tbSetDate week tow off s.start).answer 0 0)

/-- TB_TICK_TO_NS (R83). -/
def execTbTickToNs (tick : Nat) (s : State) : Host.Outcome State Fault Refusal :=
  if s.build.tickHz ≤ tick then .next (s.reject .errRange)
  else .next (s.start.answer (wrap64 (tbTick s tick)) 0)

/-- TB_ADVANCE (R84). -/
def execTbAdvance (s : State) : Host.Outcome State Fault Refusal :=
  .next ((tbAdvance s.start).answer 0 0)

/-- TB_TO_NTP (R85). -/
def execTbToNtp (tick : Nat) (fudge : Int) (s : State) : Host.Outcome State Fault Refusal :=
  if s.build.tickHz ≤ tick then .next (s.reject .errRange)
  else .next (s.start.answer (tbToNtp s tick fudge) 0)

/-- TB_TO_UNIX (R86). -/
def execTbToUnix (s : State) : Host.Outcome State Fault Refusal :=
  .next (s.start.answer (wrap64 (tbToUnix s)) 0)

/-- TB_GET_DATE (R87). -/
def execTbGetDate (s : State) : Host.Outcome State Fault Refusal :=
  .next (s.start.answer (wrap64 (s.tb.tow.toNat : Int)) (BitVec.ofNat 32 s.tb.week.toNat))

end Sys2Proof.Machine
end

