-- ==== Sys2Proof/Machine/Holdover.lean ====
section
/-! DEFINITION. ClockDiscipline, the part HealthMonitor drives (spec/44_discipline.md): the rate split (R151), the
discipline reset (R146), entering and leaving holdover (R156, R157), and the commands CD_ENTER_HOLDOVER (R159) and
CD_LEAVE_HOLDOVER (R160). -/

namespace Sys2Proof.Machine

/-- The oscillator request of a rate: rounded to the oscillator's granularity, bounded to one step from
CD.osc_last, and clamped to the driver's i32 interface (R151). -/
def oscRequest (s : State) (rate : Int) : Int :=
  let q := rndHalfUp rate s.build.oscGranPpt
  let last := s.cd.oscLast.toInt
  let req := clamp q (last - s.build.oscStepMaxPpt) (last + s.build.oscStepMaxPpt)
  clamp req (-2 ^ 31) (2 ^ 31 - 1)

/-- The timer trim, in units, that takes up what the applied oscillator rate leaves of the rate (R151). -/
def timerTrim (s : State) (rate applied : Int) : Int :=
  clamp (fdiv (rndHalfUp (rate - applied) s.build.timerGranPpt) s.build.timerGranPpt)
    (-(s.build.timerTrimMax : Int)) s.build.timerTrimMax

/-- `CD.command(rate) -> realized` (R151): emits OSC_RATE, then TIMER_PERIOD, and records the driver's reply and the
realized rate. -/
def cdCommand (rate : Int) (s : State) : State × Int :=
  let req := oscRequest s rate
  let applied := s.oscReply req
  let tu := timerTrim s rate applied
  let realized := applied + tu * s.build.timerGranPpt
  let t := (s.nextOscIdx.emit (.oscRate req applied)).emit (.timerPeriod (s.build.timerPeriodNominal - tu))
  (t.withCd { t.cd with oscLast := BitVec.ofInt 32 applied, realizedLast := BitVec.ofInt 64 realized }, realized)

/-- The two kinds of discipline reset (R146). -/
inductive ResetKind where
  | resync
  | holdover
  deriving DecidableEq, Repr

/-- `CD.discipline_reset(kind)` (R146): CD.fll_rate and the diagnostic counters are kept; the holdover kind keeps
both factors too. The PH entries are left unchanged, only made unreachable. -/
def disciplineReset (kind : ResetKind) (s : State) : State :=
  s.withCd { s.cd with
    prevPhase := 0, prevValid := false, jumpCounter := 0,
    filtQ := 0, filtValid := false, filtered := 0,
    pllAcc := 0, pllRamp := 0,
    fllAcc := 0, fllRamp := 0, fllUpdates := 0,
    oscLast := 0, realizedLast := 0,
    secondsSinceReset := 0,
    histHead := 0, histCount := 0,
    ditherLast := 0,
    pllFactor := match kind with | .resync => s.cfg.pllFactorMin | .holdover => s.cd.pllFactor,
    fllFactor := match kind with | .resync => s.cfg.fllFactorMin | .holdover => s.cd.fllFactor }

/-- `CD.enter_holdover()`: one final rate command of the learned rate alone, then the holdover reset (R156). -/
def cdEnterHoldover (s : State) : State :=
  disciplineReset .holdover (cdCommand s.cd.fllRate.toInt s).1

/-- The cut of one factor after a holdover of `d` seconds: the ceiling of excess · min(d, ANNEAL) / (2 · ANNEAL)
(R157). -/
def annealCut (annealS d : Nat) (factor minimum : Half) : Int :=
  let dd : Int := min d annealS
  let excess : Int := (factor.toNat : Int) - minimum.toNat
  let cut : Int := -(fdiv (-(excess * dd)) (2 * annealS))
  cut

/-- `CD.leave_holdover(d)`: both factors relax toward their minimums (R157). -/
def cdLeaveHoldover (d : Nat) (s : State) : State :=
  let annealed (factor minimum : Half) : Half :=
    BitVec.ofInt 16 ((factor.toNat : Int) - annealCut s.build.holdoverAnnealS d factor minimum)
  s.withCd { s.cd with
    pllFactor := annealed s.cd.pllFactor s.cfg.pllFactorMin,
    fllFactor := annealed s.cd.fllFactor s.cfg.fllFactorMin }

/-- CD_ENTER_HOLDOVER (R159). -/
def execCdEnterHoldover (s : State) : Host.Outcome State Fault Refusal :=
  .next ((cdEnterHoldover s.start).answer 0 0)

/-- CD_LEAVE_HOLDOVER (R160). -/
def execCdLeaveHoldover (duration : Nat) (s : State) : Host.Outcome State Fault Refusal :=
  .next ((cdLeaveHoldover duration s.start).answer 0 0)

end Sys2Proof.Machine
end

