-- ==== Sys2Proof/Machine/Health.lean ====
section
/-! DEFINITION. HealthMonitor (spec/43_health.md): the setters, watchdogs, update and aging (R123 to R129) and the
commands HM_* (R132 to R140). -/

namespace Sys2Proof.Machine

/-! ## HM.update and its side effects -/

/-- `enter_ok(S)`: enable the PPS output and, coming from HOLDOVER, tell ClockDiscipline how long it lasted
(R126). -/
def enterOk (before : SystemStatus) (s : State) : State :=
  let t := (s.withHm { s.hm with ppsEnabled := true }).emit .ppsEnable
  match before with
  | .holdover =>
    let d := max 0 (tbToUnix t - t.hm.holdoverStart.toInt)
    cdLeaveHoldover (min d (2 ^ 32 - 1)).toNat t
  | .unlock => t
  | .ok => t

/-- `enter_holdover_side()`: record the entry time and run CD.enter_holdover (R127). -/
def enterHoldoverSide (s : State) : State :=
  cdEnterHoldover (s.withHm { s.hm with holdoverStart := BitVec.ofInt 64 (tbToUnix s) })

/-- `enter_unlock(S)`: disable the PPS output (R128). -/
def enterUnlock (s : State) : State :=
  (s.withHm { s.hm with ppsEnabled := false }).emit .ppsDisable

/-- `HM.update()`: at most one transition of the table, with its side effects (R125). -/
def hmUpdate (s : State) : State :=
  let before := s.hm.system
  let after := nextSystem before s.hm.osc s.hm.gps s.hm.pll s.hm.fll
  let t := s.withHm { s.hm with system := after }
  if after = before then t
  else match after with
    | .ok => enterOk before t
    | .holdover => enterHoldoverSide t
    | .unlock => enterUnlock t

/-! ## Setters, refreshes, aging -/

/-- `HM.set_osc_status(s)` (R123). -/
def setOscStatus (x : SubStatus) (s : State) : State := hmUpdate (s.withHm { s.hm with osc := x })

/-- `HM.set_gps_status(s)`: refreshes the GPS watchdog (R123). -/
def setGpsStatus (x : SubStatus) (s : State) : State := hmUpdate (s.withHm { s.hm with gps := x, gpsWdt := 0 })

/-- `HM.set_pll_status(s)` (R123). -/
def setPllStatus (x : SubStatus) (s : State) : State := hmUpdate (s.withHm { s.hm with pll := x })

/-- `HM.set_fll_status(s)`: refreshes the FLL watchdog for OK only (R123). -/
def setFllStatus (x : SubStatus) (s : State) : State :=
  hmUpdate (s.withHm { s.hm with fll := x, fllWdt := if x = .ok then 0 else s.hm.fllWdt })

/-- `HM.reset_gps_watchdog()` (R124). -/
def resetGpsWatchdog (s : State) : State := s.withHm { s.hm with gpsWdt := 0 }

/-- `HM.reset_fll_watchdog()` (R124). -/
def resetFllWatchdog (s : State) : State := s.withHm { s.hm with fllWdt := 0 }

/-- `HM.age()`: both watchdogs count and force, then one update (R129). -/
def hmAge (s : State) : State :=
  let g := satInc32 s.hm.gpsWdt
  let f := satInc32 s.hm.fllWdt
  hmUpdate (s.withHm { s.hm with
    gpsWdt := g,
    gps := if s.build.gpsWdtLimit ≤ g.toNat then .unlock else s.hm.gps,
    fllWdt := f,
    fll := if s.build.fllWdtLimit ≤ f.toNat then .unlock else s.hm.fll })

/-! ## Commands -/

/-- HM_SET_OSC (R132). -/
def execHmSetOsc (code : Nat) (s : State) : Host.Outcome State Fault Refusal :=
  match SubStatus.ofCode? 1 code with
  | some x => .next ((setOscStatus x s.start).answer 0 0)
  | none => .next (s.reject .errRange)

/-- HM_SET_GPS (R133). -/
def execHmSetGps (code : Nat) (s : State) : Host.Outcome State Fault Refusal :=
  match SubStatus.ofCode? 2 code with
  | some x => .next ((setGpsStatus x s.start).answer 0 0)
  | none => .next (s.reject .errRange)

/-- HM_SET_PLL (R134). -/
def execHmSetPll (code : Nat) (s : State) : Host.Outcome State Fault Refusal :=
  match SubStatus.ofCode? 1 code with
  | some x => .next ((setPllStatus x s.start).answer 0 0)
  | none => .next (s.reject .errRange)

/-- HM_SET_FLL (R135). -/
def execHmSetFll (code : Nat) (s : State) : Host.Outcome State Fault Refusal :=
  match SubStatus.ofCode? 1 code with
  | some x => .next ((setFllStatus x s.start).answer 0 0)
  | none => .next (s.reject .errRange)

/-- HM_RESET_GPS_WDT (R136). -/
def execHmResetGpsWdt (s : State) : Host.Outcome State Fault Refusal :=
  .next ((resetGpsWatchdog s.start).answer 0 0)

/-- HM_RESET_FLL_WDT (R137). -/
def execHmResetFllWdt (s : State) : Host.Outcome State Fault Refusal :=
  .next ((resetFllWatchdog s.start).answer 0 0)

/-- HM_UPDATE (R138). -/
def execHmUpdate (s : State) : Host.Outcome State Fault Refusal :=
  .next ((hmUpdate s.start).answer 0 0)

/-- HM_SHOULD_RUN (R139). -/
def execHmShouldRun (s : State) : Host.Outcome State Fault Refusal :=
  .next (s.start.answer (wrap64 (boolCode (shouldRunDiscipline s.hm))) 0)

/-- HM_GET_STATUS (R140). -/
def execHmGetStatus (s : State) : Host.Outcome State Fault Refusal :=
  .next (s.start.answer (wrap64 (packedStatus s.hm : Int)) 0)

end Sys2Proof.Machine
end

