-- ==== Sys2Proof/Machine/Discipline.lean ====
section
/-! DEFINITION. ClockDiscipline, the step (spec/44_discipline.md R142 to R155), and the commands CD_STEP (R158) and
PPS_CAPTURE (R141). -/

namespace Sys2Proof.Machine

/-- One more sample not used by a step: CD.skipped (R31, R141, R143, R165). -/
def countSkipped (s : State) : State := s.withCd { s.cd with skipped := wrapAdd32 s.cd.skipped 1 }

/-- `p` is a jump: at least JUMP_THRESHOLD_NS from the previous accepted sample (R144). -/
def isJump (s : State) (p : Int) : Bool :=
  s.cd.prevValid && decide (s.build.jumpThresholdNs ≤ (p - s.cd.prevPhase.toInt).natAbs)

/-- `jump_filter(p)` (R144): the state and the sample that goes on. -/
def jumpFilter (p : Int) (s : State) : State × Int :=
  if isJump s p then
    if s.cd.jumpCounter.toNat < s.build.jumpCap then
      (s.withCd { s.cd with
          jumpCounter := BitVec.ofNat 8 (s.cd.jumpCounter.toNat + 1),
          jumpSubs := wrapAdd32 s.cd.jumpSubs 1 },
        s.cd.prevPhase.toInt)
    else (s, p)
  else (s.withCd { s.cd with jumpCounter := 0 }, p)

/-- The test of `resync_check(p)`: both comparisons are strict (R145). -/
def needsResync (s : State) (p : Int) : Bool :=
  decide (s.build.resyncPhaseNs < p.natAbs)
  || (s.cd.prevValid && decide (s.build.resyncJumpNs < (p - s.cd.prevPhase.toInt).natAbs))

/-- What `resync_check(p)` does when it resyncs: no rate command (R145). -/
def resync (s : State) : State :=
  let t := disciplineReset .resync (s.emit .forceResync)
  let t := t.withCd { t.cd with resyncCount := wrapAdd32 t.cd.resyncCount 1 }
  setFllStatus .unlock (setPllStatus .unlock t)

/-- The gain divisor of the low-pass filter (R147). -/
def filterDivisor (s : State) : Int := clamp s.cd.pllFactor.toNat s.build.filtDivMin s.build.filtDivMax

/-- `low_pass(p)` (R147): the state and the filter output f. -/
def lowPass (p : Int) (s : State) : State × Int :=
  let scale : Int := 2 ^ s.build.filtFracBits
  let pq := p * scale
  let q := if s.cd.filtValid then s.cd.filtQ.toInt + tdiv (pq - s.cd.filtQ.toInt) (filterDivisor s) else pq
  let f := tdiv q scale
  (s.withCd { s.cd with filtQ := BitVec.ofInt 64 q, filtValid := true, filtered := BitVec.ofInt 32 f }, f)

/-- `pll_slew(f)` (R148): the state and the slew rate. -/
def pllSlew (f : Int) (s : State) : State × Int :=
  let acc := s.cd.pllAcc.toInt - 1000 * f
  (s.withCd { s.cd with pllAcc := BitVec.ofInt 64 acc }, tdiv acc s.cd.pllFactor.toNat)

/-- The FLL's divisor D = CD.fll_factor · FLL_SMOOTHING (R149, R150). -/
def fllDivisor (s : State) : Nat := s.cd.fllFactor.toNat * s.build.fllSmoothing

/-- `fll_update(p)` (R149). -/
def fllUpdate (p : Int) (s : State) : State :=
  let drift := 1000 * (p - s.cd.prevPhase.toInt)
  let eps := s.cd.realizedLast.toInt - s.cd.fllRate.toInt - drift
  let acc := s.cd.fllAcc.toInt + eps
  let d : Int := fllDivisor s
  let delta := tdiv acc d
  let top : Int := s.cfg.fllRateMax.toNat
  s.withCd { s.cd with
    fllAcc := BitVec.ofInt 64 (acc - delta * d),
    fllRate := BitVec.ofInt 32 (clamp (s.cd.fllRate.toInt + delta) (-top) top),
    fllUpdates := satInc32 s.cd.fllUpdates }

/-- `dither_term()` (R150). -/
def ditherTerm (s : State) : Int :=
  let r := s.cd.fllAcc.toInt
  if s.ditherU % fllDivisor s < r.natAbs then r.sign else 0

/-- `pll_feedback(slew, realized, dither)` (R152). -/
def pllFeedback (slew realized dither : Int) (s : State) : State :=
  let pf : Int := s.cd.pllFactor.toNat
  let got := realized - s.cd.fllRate.toInt - dither
  let carry := clamp (slew - got) (-(s.build.pllCarryMax : Int)) s.build.pllCarryMax
  s.withCd { s.cd with pllAcc := BitVec.ofInt 64 ((s.cd.pllAcc.toInt - slew * pf) + carry * pf) }

/-- A factor one higher, but no higher than its maximum (R153). -/
def raiseFactor (factor top : Half) : Half := BitVec.ofNat 16 (min (factor.toNat + 1) top.toNat)

/-- The PLL half of `ramps` (R153). -/
def pllRampStep (f : Int) (s : State) : State :=
  if f.natAbs ≤ s.build.pllHealthyNs then
    let r := satInc32 s.cd.pllRamp
    if s.build.pllRampInterval ≤ r.toNat then
      s.withCd { s.cd with pllRamp := 0, pllFactor := raiseFactor s.cd.pllFactor s.cfg.pllFactorMax }
    else s.withCd { s.cd with pllRamp := r }
  else s.withCd { s.cd with pllRamp := 0 }

/-- The FLL half of `ramps` (R153). -/
def fllRampStep (active : Bool) (s : State) : State :=
  if active then
    let r := satInc32 s.cd.fllRamp
    if s.build.fllRampInterval ≤ r.toNat then
      s.withCd { s.cd with fllRamp := 0, fllFactor := raiseFactor s.cd.fllFactor s.cfg.fllFactorMax }
    else s.withCd { s.cd with fllRamp := r }
  else s

/-- `ramps(f, fll_active)` (R153). -/
def ramps (f : Int) (active : Bool) (s : State) : State := fllRampStep active (pllRampStep f s)

/-- `bookkeeping(p, f, dither)` (R154). -/
def bookkeeping (p f dither : Int) (s : State) : State :=
  let t := (s.withCd { s.cd with prevPhase := BitVec.ofInt 32 p, prevValid := true }).pushPh (BitVec.ofInt 32 f)
  t.withCd { t.cd with
    ditherLast := BitVec.ofInt 8 dither,
    secondsSinceReset := satInc32 t.cd.secondsSinceReset }

/-- The Pll half of the lock test (R155). -/
def pllLocked (f : Int) (s : State) : Bool :=
  decide (f.natAbs ≤ s.build.pllHealthyNs) && decide (s.build.pllStartupS ≤ s.cd.secondsSinceReset.toNat)

/-- The Fll half of the lock test (R155). -/
def fllLocked (s : State) : Bool := decide (1 ≤ s.cd.fllUpdates.toNat)

/-- A lock test's answer as a sub-status (R155). -/
def lockStatus (locked : Bool) : SubStatus := if locked then .ok else .unlock

/-- `lock_evaluation(f)`: both tests are made before either setter runs (R155). -/
def lockEvaluation (f : Int) (s : State) : State :=
  let pllOk := pllLocked f s
  let fllOk := fllLocked s
  let t := if pllOk then s.withHm { s.hm with reftime := tbToNtp s 0 0 } else s
  setFllStatus (lockStatus fllOk) (setPllStatus (lockStatus pllOk) t)

/-- The FLL is active: the settling period has passed (R142). -/
def fllActive (s : State) : Bool := decide (s.build.fllSettleS ≤ s.cd.secondsSinceReset.toNat)

/-- The step from the low-pass filter on, for an accepted sample `p`: filter, PLL, FLL, dither, rate split,
feedback, ramps, bookkeeping, lock evaluation, in that order (R142). -/
def steer (p : Int) (s : State) : State :=
  let filtered := lowPass p s
  let f := filtered.2
  let slewed := pllSlew f filtered.1
  let slew := slewed.2
  let active := fllActive s
  let learned := if active then fllUpdate p slewed.1 else slewed.1
  let dither := if active then ditherTerm learned else 0
  let commanded := cdCommand (slew + learned.cd.fllRate.toInt + dither) learned
  let realized := commanded.2
  lockEvaluation f (bookkeeping p f dither (ramps f active (pllFeedback slew realized dither commanded.1)))

/-- Where the steering part of a step has no meaning: a zero divisor (R12) or a history slot outside the ring
(R42). No run of an instance that meets `Build.fits` reaches such a state (R37; log entry 7). DESIGN CHOICE (log entry
20): R9 admits instances outside those bounds, such as FACTOR_LIMIT = 65536, and does not say what a factor register
then holds; the model narrows it (`cfgSet`), which can make it 0, and the step then stops with the fault zeroDivisor. -/
def steerFault (s : State) : Option Fault :=
  if s.cd.pllFactor.toNat = 0 ∨ (fllActive s = true ∧ fllDivisor s = 0) then some .zeroDivisor
  else if s.build.phaseHistoryLen ≤ s.cd.histHead.toNat then some (.phSlot s.cd.histHead.toNat)
  else none

/-- `CD.step(phase, gps_valid) -> ran` (R142, R143): the state and whether the algorithm ran. -/
def cdStep (phase : Int) (gpsValid : Bool) (s : State) : Except Fault (State × Bool) :=
  if gpsValid then
    let jumped := jumpFilter phase s
    if needsResync jumped.1 jumped.2 then .ok (resync jumped.1, true)
    else match steerFault jumped.1 with
      | some e => .error e
      | none => .ok (steer jumped.2 jumped.1, true)
  else .ok (countSkipped s, false)

/-- CD_STEP (R158). -/
def execCdStep (phase : Int) (gpsValid : Bool) (s : State) : Host.Outcome State Fault Refusal :=
  match cdStep phase gpsValid s.start with
  | .ok r => .next (r.1.answer (wrap64 (boolCode r.2)) 0)
  | .error e => .fault e

/-- PPS_CAPTURE (R141). -/
def execPpsCapture (tick : Nat) (s : State) : Host.Outcome State Fault Refusal :=
  if s.build.tickHz ≤ tick then .next (s.reject .errRange)
  else
    let p := tbTick s tick
    let t := if s.sys.pendingValid then countSkipped s.start else s.start
    .next ((t.withSys { pendingValid := true, pendingPhase := BitVec.ofInt 32 p }).answer (wrap64 p) 0)

end Sys2Proof.Machine
end

