-- ==== Sys2Proof/Machine/Messages.lean ====
section
/-! DEFINITION. GPS messages (spec/42_gps_messages.md): the interpreters of R113 to R119 and the dispatch of one
checksummed frame (R111, R112, R120, R122). The tags and payload layouts are those of R67 to R74. -/

namespace Sys2Proof.Machine

/-- What an interpreter answers (R111). -/
inductive Interpretation where
  | timing (week tow : Nat) (off : Int) (valid : Bool)
  | status
  | unknown
  deriving DecidableEq, Repr

/-- `bit_k(v)` (spec/42_gps_messages.md §2). -/
def bitSet (v k : Nat) : Bool := v.testBit k

/-- The GPS − UTC value that cannot be negated into an i16 (R114, R115). -/
def unusableOffset : Int := -32768

/-- SIRF MID 7, Clock Status Data: a timing message (R68, R113). -/
def sirfClockStatus (s : State) : Interpretation :=
  let tow := s.be32 3 / 100
  let valid := s.gd.utcKnown && decide (0 < s.u8 7) && decide (tow < s.build.weekSeconds)
  .timing (s.be16 1) tow s.gd.utcOffset.toInt valid

/-- SIRF MID 52, 1PPS Time: a status message (R69, R114). -/
def sirfPpsTime (s : State) : State :=
  let st := s.u8 14
  let u := s.sbe16 8
  let known := bitSet st 2 && decide (u ≠ unusableOffset)
  let alarm : SubStatus :=
    if bitSet st 0 = false then .unlock else if bitSet st 2 = false then .minorAlarm else .ok
  s.withGd { s.gd with
    utcKnown := known,
    utcOffset := if known then BitVec.ofInt 16 (-u) else s.gd.utcOffset,
    alarm := alarm }

/-- TSIP 0x8F-AB, Primary Timing Packet: a timing message (R70, R115). -/
def tsipPrimaryTiming (s : State) : Interpretation :=
  let tow := s.be32 1
  let u := s.sbe16 7
  let fl := s.u8 9
  let valid := !bitSet fl 2 && !bitSet fl 3 && !s.gd.block && decide (tow < s.build.weekSeconds)
    && decide (u ≠ unusableOffset)
  .timing (s.be16 5) tow (if u ≠ unusableOffset then -u else 0) valid

/-- TSIP 0x8F-AC, Supplemental Timing Packet: a status message (R71, R116). -/
def tsipSupplementalTiming (s : State) : State :=
  let crit := s.be16 8
  let minor := s.be16 10
  let dec := s.u8 12
  let block := decide (crit ≠ 0) || decide (minor &&& s.build.tsipFixblockMinorMask.toNat ≠ 0)
  let alarm : SubStatus :=
    if crit ≠ 0 ∨ dec ≠ 0 ∨ minor &&& s.build.tsipUnlockMinorMask.toNat ≠ 0 then .unlock
    else if minor &&& s.build.tsipMinorAlarmMask.toNat ≠ 0 then .minorAlarm
    else .ok
  s.withGd { s.gd with
    block := block,
    fixValid := if block then false else s.gd.fixValid,
    alarm := alarm }

/-- UBX NAV-TIMEGPS: a timing message (R72, R117). -/
def ubxTimeGps (s : State) : Interpretation :=
  let tow := s.le32 0 / 1000
  let wk := s.sle16 8
  let valid := decide (s.u8 11 &&& 0x07 = 0x07) && !s.gd.block && decide (0 ≤ wk)
    && decide (tow < s.build.weekSeconds)
  .timing wk.toNat tow (-(s.s8 10)) valid

/-- UBX NAV-STATUS: a status message (R73, R118). -/
def ubxNavStatus (s : State) : State :=
  let fix := s.u8 4
  let alarm : SubStatus :=
    if bitSet (s.u8 5) 0 = false ∨ fix = 0 then .unlock else if fix = 3 ∨ fix = 5 then .ok else .minorAlarm
  s.withGd { s.gd with alarm := alarm }

/-- UBX TIM-SVIN: a status message (R74, R119). -/
def ubxSurveyIn (s : State) : State :=
  let block := decide (s.u8 25 ≠ 0)
  s.withGd { s.gd with block := block, fixValid := if block then false else s.gd.fixValid }

/-- The SIRF interpreters: the tag is the MID, u8(0), when n ≥ 1 (R67, R120). -/
def interpretSirf (n : Nat) (s : State) : State × Interpretation :=
  if 1 ≤ n ∧ s.u8 0 = 7 ∧ 8 ≤ n then (s, sirfClockStatus s)
  else if 1 ≤ n ∧ s.u8 0 = 52 ∧ 15 ≤ n then (sirfPpsTime s, .status)
  else (s, .unknown)

/-- The TSIP interpreters: the tag is GD.id and, for 0x8F, the subcode u8(0) when n ≥ 1 (R67, R120). -/
def interpretTsip (n : Nat) (s : State) : State × Interpretation :=
  if s.gd.id = 0x8F ∧ 1 ≤ n ∧ s.u8 0 = 0xAB ∧ 10 ≤ n then (s, tsipPrimaryTiming s)
  else if s.gd.id = 0x8F ∧ 1 ≤ n ∧ s.u8 0 = 0xAC ∧ 13 ≤ n then (tsipSupplementalTiming s, .status)
  else (s, .unknown)

/-- The UBX interpreters: the tag is the pair (GD.cls, GD.id) (R67, R120). -/
def interpretUbx (n : Nat) (s : State) : State × Interpretation :=
  if s.gd.cls = 0x01 ∧ s.gd.id = 0x20 ∧ 12 ≤ n then (s, ubxTimeGps s)
  else if s.gd.cls = 0x01 ∧ s.gd.id = 0x03 ∧ 6 ≤ n then (ubxNavStatus s, .status)
  else if s.gd.cls = 0x0D ∧ s.gd.id = 0x04 ∧ 26 ≤ n then (ubxSurveyIn s, .status)
  else (s, .unknown)

/-- `interpret(tag, n)`: only the chosen protocol's interpreters exist (R113 to R120). -/
def interpret (n : Nat) (s : State) : State × Interpretation :=
  match s.build.protocol with
  | .sirf => interpretSirf n s
  | .tsip => interpretTsip n s
  | .ubx => interpretUbx n s

/-- The end of a timing message: the fix's validity, the date of a valid fix only (R122), then the Gps sub-status
(R111). -/
def foldTiming (week tow : Nat) (off : Int) (valid : Bool) (s : State) : State :=
  let t := s.withGd { s.gd with fixValid := valid }
  let t := if valid then tbSetDate week tow off t else t
  setGpsStatus (combineGps t.gd) t

/-- `dispatch(n)`: one checksummed frame with payload PB[0..n) (R111). The watchdog is reset before the
interpretation. -/
def dispatch (n : Nat) (s : State) : State × FeedEvent :=
  let t := resetGpsWatchdog (s.withGd { s.gd with good := wrapAdd32 s.gd.good 1 })
  let r := interpret n t
  match r.2 with
  | .timing week tow off valid => (foldTiming week tow off valid r.1, .fix)
  | .status => (setGpsStatus (combineGps r.1.gd) r.1, .status)
  | .unknown => (r.1.withGd { r.1.gd with unknown := wrapAdd32 r.1.gd.unknown 1 }, .none)

end Sys2Proof.Machine
end

