-- ==== Sys2Proof/Machine/Framing.lean ====
section
/-! DEFINITION. GPS byte framing (spec/41_gps_framing.md): the checksums (R62, R64, R66), the three framing machines
(R90 to R108) and the command GPS_FEED (R88). -/

namespace Sys2Proof.Machine

/-! ## Checksums -/

/-- `cks_sirf(p0..p(n−1))`: the sum of the payload bytes mod 2^15 (R62). -/
def cksSirf (payload : List Byte) : Nat := (payload.map BitVec.toNat).sum % 2 ^ 15

/-- `cks_tsip(id, d0..d(n−1))`: the sum of the id and the data bytes mod 2^8 (R64). -/
def cksTsip (ident : Byte) (data : List Byte) : Byte := data.foldl (fun acc d => acc + d) ident

/-- The Fletcher pair (ck_a, ck_b) of a byte sequence (R66). -/
def fletcher (bytes : List Byte) : Byte × Byte :=
  bytes.foldl (fun acc c => (acc.1 + c, acc.2 + (acc.1 + c))) (0, 0)

/-- The byte sequence the UBX checksum covers: class, id, the two length bytes, the payload (R66). -/
def ubxCovered (cls ident : Byte) (payload : List Byte) : List Byte :=
  cls :: ident :: BitVec.ofNat 8 payload.length :: BitVec.ofNat 8 (payload.length / 2 ^ 8) :: payload

/-! ## Framing state codes (R24) -/

/-- The code of a SIRF framing state (R24). -/
def SirfState.code : SirfState → Byte
  | .sync1 => 0 | .sync2 => 1 | .len1 => 2 | .len2 => 3 | .payload => 4
  | .ck1 => 5 | .ck2 => 6 | .end1 => 7 | .end2 => 8 | .drain => 9

/-- The SIRF framing state of a code (R24). -/
def SirfState.ofCode? (c : Byte) : Option SirfState :=
  match c.toNat with
  | 0 => some .sync1 | 1 => some .sync2 | 2 => some .len1 | 3 => some .len2 | 4 => some .payload
  | 5 => some .ck1 | 6 => some .ck2 | 7 => some .end1 | 8 => some .end2 | 9 => some .drain
  | _ => none

/-- The code of a TSIP framing state (R24). -/
def TsipState.code : TsipState → Byte
  | .idle => 0 | .ident => 1 | .data => 2 | .dataDle => 3

/-- The TSIP framing state of a code (R24). -/
def TsipState.ofCode? (c : Byte) : Option TsipState :=
  match c.toNat with
  | 0 => some .idle | 1 => some .ident | 2 => some .data | 3 => some .dataDle
  | _ => none

/-- The code of a UBX framing state (R24). -/
def UbxState.code : UbxState → Byte
  | .sync1 => 0 | .sync2 => 1 | .cls => 2 | .ident => 3 | .len1 => 4
  | .len2 => 5 | .payload => 6 | .ckA => 7 | .ckB => 8 | .drain => 9

/-- The UBX framing state of a code (R24). -/
def UbxState.ofCode? (c : Byte) : Option UbxState :=
  match c.toNat with
  | 0 => some .sync1 | 1 => some .sync2 | 2 => some .cls | 3 => some .ident | 4 => some .len1
  | 5 => some .len2 | 6 => some .payload | 7 => some .ckA | 8 => some .ckB | 9 => some .drain
  | _ => none

/-! ## Operations the machines share (R89) -/

/-- What GD.feed answers: the state and the event, or a state that no run reaches (log entry 7). -/
abbrev FeedResult := Except Fault (State × FeedEvent)

/-- A byte that dispatched nothing. -/
def quiet (s : State) : FeedResult := .ok (s, .none)

/-- `x[GD.state] <- code`. -/
def State.setFraming (s : State) (code : Byte) : State := s.withGd { s.gd with state := code }

/-- `garbage += k` (R89). -/
def countGarbage (k : Nat) (s : State) : State := s.withGd { s.gd with garbage := wrapAdd32 s.gd.garbage k }

/-- `too_big += 1` (R89). -/
def countTooBig (s : State) : State := s.withGd { s.gd with tooBig := wrapAdd32 s.gd.tooBig 1 }

/-- `cks_err += 1` (R89). -/
def countCksErr (s : State) : State := s.withGd { s.gd with cksErr := wrapAdd32 s.gd.cksErr 1 }

/-- `framing_err += 1` (R89). -/
def countFramingErr (s : State) : State := s.withGd { s.gd with framingErr := wrapAdd32 s.gd.framingErr 1 }

/-- `store(b)`: the byte at PB[GD.idx], GD.idx one higher (R89). -/
def storeByte (b : Byte) (s : State) : State :=
  (s.writePb s.gd.idx.toNat b).withGd { s.gd with idx := BitVec.ofNat 16 (s.gd.idx.toNat + 1) }

/-- `f` where the address exists in PB (R39), else the fault of a state that no run reaches. -/
def atPbAddress (s : State) (addr : Nat) (f : FeedResult) : FeedResult :=
  if addr ≤ s.build.maxPayload then f else .error (.pbAddress addr)

/-- `f` where the bytes PB[0..n) all exist (R39), else the fault of a state that no run reaches. -/
def overPayload (s : State) (n : Nat) (f : FeedResult) : FeedResult :=
  if n ≤ s.build.maxPayload + 1 then f else .error (.pbAddress (n - 1))

/-- The declared length `len` decides where the frame goes: drained when it is over MAX_PAYLOAD, else to the
checksum when it is 0, else to the payload (R92, R105). `tail` is how many bytes follow the payload. -/
def takeLength (len tail : Nat) (drainCode checksumCode payloadCode : Byte) (s : State) : State :=
  let t := s.withGd { s.gd with len := BitVec.ofNat 16 len, idx := 0 }
  if s.build.maxPayload < len then
    (countTooBig (t.withGd { t.gd with drain := BitVec.ofNat 32 (len + tail) })).setFraming drainCode
  else if len = 0 then t.setFraming checksumCode
  else t.setFraming payloadCode

/-- One payload byte, and on to the checksum after the last (R93, R106). -/
def takePayload (b checksumCode : Byte) (s : State) : FeedResult :=
  atPbAddress s s.gd.idx.toNat <|
    let t := storeByte b s
    quiet (if t.gd.idx = t.gd.len then t.setFraming checksumCode else t)

/-- One drained byte, and back to state 0 after the last (R96, R108). -/
def drainByte (s : State) : State :=
  let left := s.gd.drain - 1
  let t := s.withGd { s.gd with drain := left }
  if left = 0 then t.setFraming 0 else t

/-! ## SIRF (R90 to R96) -/

/-- State S_SYNC1 (R90). -/
def sirfSync1 (b : Byte) (s : State) : State :=
  if b = 0xA0 then s.setFraming SirfState.sync2.code else countGarbage 1 s

/-- "reprocess b" for SIRF: state 0, then its rule on the same byte, once (R89). -/
def sirfReprocess (b : Byte) (s : State) : State := sirfSync1 b (s.setFraming SirfState.sync1.code)

/-- `sirf_byte(b)` in framing state `st` (R90 to R96). -/
def sirfByte (st : SirfState) (b : Byte) (s : State) : FeedResult :=
  match st with
  | .sync1 => quiet (sirfSync1 b s)
  | .sync2 =>
    if b = 0xA2 then quiet (s.setFraming SirfState.len1.code)
    else quiet (sirfReprocess b (countGarbage 1 s))
  | .len1 =>
    quiet ((s.withGd { s.gd with len := BitVec.ofNat 16 (2 ^ 8 * (b.toNat % 2 ^ 7)) }).setFraming SirfState.len2.code)
  | .len2 =>
    quiet (takeLength (s.gd.len.toNat + b.toNat) 4 SirfState.drain.code SirfState.ck1.code SirfState.payload.code s)
  | .payload => takePayload b SirfState.ck1.code s
  | .ck1 => quiet ((s.withGd { s.gd with rx := b }).setFraming SirfState.ck2.code)
  | .ck2 =>
    overPayload s s.gd.len.toNat <|
      if 2 ^ 8 * s.gd.rx.toNat + b.toNat = cksSirf (s.pbBytes s.gd.len.toNat) then
        quiet (s.setFraming SirfState.end1.code)
      else quiet ((countCksErr s).setFraming SirfState.sync1.code)
  | .end1 =>
    if b = 0xB0 then quiet (s.setFraming SirfState.end2.code)
    else quiet (sirfReprocess b (countFramingErr s))
  | .end2 =>
    if b = 0xB3 then
      overPayload s s.gd.len.toNat (.ok (dispatch s.gd.len.toNat (s.setFraming SirfState.sync1.code)))
    else quiet (sirfReprocess b (countFramingErr s))
  | .drain => quiet (drainByte s)

/-! ## TSIP (R97 to R101) -/

/-- DLE (R63). -/
def dle : Byte := 0x10

/-- ETX (R63). -/
def etx : Byte := 0x03

/-- `cap`: MAX_PAYLOAD + 1 with ADD8, MAX_PAYLOAD with NONE (R39, spec/41_gps_framing.md §3). -/
def tsipCap (b : Build) : Nat :=
  match b.tsipChecksum with
  | .add8 => b.maxPayload + 1
  | .none => b.maxPayload

/-- `tsip_store(v)` (R99): a byte beyond the capacity marks the frame and is counted once per frame. -/
def tsipStore (v : Byte) (s : State) (k : State → FeedResult) : FeedResult :=
  if s.gd.ovf then k s
  else if s.gd.idx.toNat = tsipCap s.build then k (countTooBig (s.withGd { s.gd with ovf := true }))
  else atPbAddress s s.gd.idx.toNat (k (storeByte v s))

/-- A TSIP frame starts with id byte `b` (R98, R100). -/
def tsipStartFrame (b : Byte) (s : State) : State :=
  (s.withGd { s.gd with id := b, idx := 0, ovf := false }).setFraming TsipState.data.code

/-- `tsip_end()`: DLE ETX (R101). -/
def tsipEnd (s : State) : FeedResult :=
  if s.gd.ovf then quiet s
  else match s.build.tsipChecksum with
    | .add8 =>
      if s.gd.idx.toNat = 0 then quiet (countCksErr s)
      else
        let n := s.gd.idx.toNat - 1
        atPbAddress s n <|
          if Cells.read s.pb n = cksTsip s.gd.id (s.pbBytes n) then .ok (dispatch n s)
          else quiet (countCksErr s)
    | .none => overPayload s s.gd.idx.toNat (.ok (dispatch s.gd.idx.toNat s))

/-- `tsip_byte(b)` in framing state `st` (R97 to R101). -/
def tsipByte (st : TsipState) (b : Byte) (s : State) : FeedResult :=
  match st with
  | .idle => if b = dle then quiet (s.setFraming TsipState.ident.code) else quiet (countGarbage 1 s)
  | .ident =>
    if b = dle ∨ b = etx then quiet ((countGarbage 2 s).setFraming TsipState.idle.code)
    else quiet (tsipStartFrame b s)
  | .data =>
    if b = dle then quiet (s.setFraming TsipState.dataDle.code) else tsipStore b s quiet
  | .dataDle =>
    if b = dle then tsipStore dle s (fun t => quiet (t.setFraming TsipState.data.code))
    else if b = etx then tsipEnd (s.setFraming TsipState.idle.code)
    else quiet (tsipStartFrame b (countFramingErr s))

/-! ## UBX (R102 to R108) -/

/-- State U_SYNC1 (R102). -/
def ubxSync1 (b : Byte) (s : State) : State :=
  if b = 0xB5 then s.setFraming UbxState.sync2.code else countGarbage 1 s

/-- "reprocess b" for UBX: state 0, then its rule on the same byte, once (R89). -/
def ubxReprocess (b : Byte) (s : State) : State := ubxSync1 b (s.setFraming UbxState.sync1.code)

/-- The checksum pair the block computes over a UBX frame (R107). -/
def ubxFrameCks (s : State) : Byte × Byte := fletcher (ubxCovered s.gd.cls s.gd.id (s.pbBytes s.gd.len.toNat))

/-- `ubx_byte(b)` in framing state `st` (R102 to R108). -/
def ubxByte (st : UbxState) (b : Byte) (s : State) : FeedResult :=
  match st with
  | .sync1 => quiet (ubxSync1 b s)
  | .sync2 =>
    if b = 0x62 then quiet (s.setFraming UbxState.cls.code)
    else quiet (ubxReprocess b (countGarbage 1 s))
  | .cls => quiet ((s.withGd { s.gd with cls := b }).setFraming UbxState.ident.code)
  | .ident => quiet ((s.withGd { s.gd with id := b }).setFraming UbxState.len1.code)
  | .len1 => quiet ((s.withGd { s.gd with len := BitVec.ofNat 16 b.toNat }).setFraming UbxState.len2.code)
  | .len2 =>
    quiet (takeLength (s.gd.len.toNat + 2 ^ 8 * b.toNat) 2 UbxState.drain.code UbxState.ckA.code
      UbxState.payload.code s)
  | .payload => takePayload b UbxState.ckA.code s
  | .ckA => quiet ((s.withGd { s.gd with rx := b }).setFraming UbxState.ckB.code)
  | .ckB =>
    overPayload s s.gd.len.toNat <|
      let t := s.setFraming UbxState.sync1.code
      if s.gd.rx = (ubxFrameCks s).1 ∧ b = (ubxFrameCks s).2 then .ok (dispatch s.gd.len.toNat t)
      else quiet (countCksErr t)
  | .drain => quiet (drainByte s)

/-! ## GD.feed and GPS_FEED -/

/-- `f` on the framing state that GD.state codes, else the fault of a state that no run reaches (R24). -/
def inFramingState {α : Type} (s : State) (st : Option α) (f : α → FeedResult) : FeedResult :=
  match st with
  | some x => f x
  | none => .error (.framingState s.gd.state.toNat)

/-- `GD.feed(b) -> event` (R89). -/
def gdFeed (b : Byte) (s : State) : FeedResult :=
  match s.build.protocol with
  | .sirf => inFramingState s (SirfState.ofCode? s.gd.state) (fun st => sirfByte st b s)
  | .tsip => inFramingState s (TsipState.ofCode? s.gd.state) (fun st => tsipByte st b s)
  | .ubx => inFramingState s (UbxState.ofCode? s.gd.state) (fun st => ubxByte st b s)

/-- GPS_FEED (R88). -/
def execGpsFeed (byte : Nat) (s : State) : Host.Outcome State Fault Refusal :=
  match gdFeed (BitVec.ofNat 8 byte) s.start with
  | .ok r => .next (r.1.answer (wrap64 (r.2.code : Int)) 0)
  | .error e => .fault e

end Sys2Proof.Machine
end

