-- ==== Sys2Proof/Machine/Registers.lean ====
section
/-! DEFINITION. The register numbers and the read view of the registers (R21 to R34, R60). -/

namespace Sys2Proof.Machine

/-- The registers that the tables of spec/10_state.md number (R21). -/
inductive Reg where
  /-- 0x0000 TB.week -/
  | tbWeek
  /-- 0x0001 TB.tow -/
  | tbTow
  /-- 0x0002 TB.date_set -/
  | tbDateSet
  /-- 0x0100 GD.state -/
  | gdState
  /-- 0x0101 GD.len -/
  | gdLen
  /-- 0x0102 GD.idx -/
  | gdIdx
  /-- 0x0103 GD.cls -/
  | gdCls
  /-- 0x0104 GD.id -/
  | gdId
  /-- 0x0105 GD.rx -/
  | gdRx
  /-- 0x0106 GD.drain -/
  | gdDrain
  /-- 0x0107 GD.ovf -/
  | gdOvf
  /-- 0x0110 GD.garbage -/
  | gdGarbage
  /-- 0x0111 GD.too_big -/
  | gdTooBig
  /-- 0x0112 GD.cks_err -/
  | gdCksErr
  /-- 0x0113 GD.framing_err -/
  | gdFramingErr
  /-- 0x0114 GD.unknown -/
  | gdUnknown
  /-- 0x0115 GD.good -/
  | gdGood
  /-- 0x0120 GD.fix_valid -/
  | gdFixValid
  /-- 0x0121 GD.alarm -/
  | gdAlarm
  /-- 0x0122 GD.block -/
  | gdBlock
  /-- 0x0123 GD.utc_known -/
  | gdUtcKnown
  /-- 0x0124 GD.utc_offset -/
  | gdUtcOffset
  /-- 0x0200 HM.system -/
  | hmSystem
  /-- 0x0201 HM.osc -/
  | hmOsc
  /-- 0x0202 HM.gps -/
  | hmGps
  /-- 0x0203 HM.pll -/
  | hmPll
  /-- 0x0204 HM.fll -/
  | hmFll
  /-- 0x0205 HM.gps_wdt -/
  | hmGpsWdt
  /-- 0x0206 HM.fll_wdt -/
  | hmFllWdt
  /-- 0x0207 HM.pps_enabled -/
  | hmPpsEnabled
  /-- 0x0208 HM.reftime -/
  | hmReftime
  /-- 0x0209 HM.holdover_start -/
  | hmHoldoverStart
  /-- 0x0300 CD.prev_phase -/
  | cdPrevPhase
  /-- 0x0301 CD.prev_valid -/
  | cdPrevValid
  /-- 0x0302 CD.jump_counter -/
  | cdJumpCounter
  /-- 0x0303 CD.filt_q -/
  | cdFiltQ
  /-- 0x0304 CD.filt_valid -/
  | cdFiltValid
  /-- 0x0305 CD.filtered -/
  | cdFiltered
  /-- 0x0306 CD.pll_acc -/
  | cdPllAcc
  /-- 0x0307 CD.pll_factor -/
  | cdPllFactor
  /-- 0x0308 CD.pll_ramp -/
  | cdPllRamp
  /-- 0x0309 CD.fll_rate -/
  | cdFllRate
  /-- 0x030A CD.fll_acc -/
  | cdFllAcc
  /-- 0x030B CD.fll_factor -/
  | cdFllFactor
  /-- 0x030C CD.fll_ramp -/
  | cdFllRamp
  /-- 0x030D CD.fll_updates -/
  | cdFllUpdates
  /-- 0x030E CD.osc_last -/
  | cdOscLast
  /-- 0x030F CD.realized_last -/
  | cdRealizedLast
  /-- 0x0310 CD.seconds_since_reset -/
  | cdSecondsSinceReset
  /-- 0x0311 CD.hist_head -/
  | cdHistHead
  /-- 0x0312 CD.hist_count -/
  | cdHistCount
  /-- 0x0313 CD.dither_last -/
  | cdDitherLast
  /-- 0x0320 CD.resync_count -/
  | cdResyncCount
  /-- 0x0321 CD.jump_subs -/
  | cdJumpSubs
  /-- 0x0322 CD.skipped -/
  | cdSkipped
  /-- 0x0500 CFG.pll_factor_min -/
  | cfgPllFactorMin
  /-- 0x0501 CFG.pll_factor_max -/
  | cfgPllFactorMax
  /-- 0x0502 CFG.fll_factor_min -/
  | cfgFllFactorMin
  /-- 0x0503 CFG.fll_factor_max -/
  | cfgFllFactorMax
  /-- 0x0504 CFG.fll_rate_max -/
  | cfgFllRateMax
  /-- 0x0505 the alias of CD.fll_rate -/
  | cfgFllRate
  /-- 0x0506 CFG.discipline_enable -/
  | cfgDisciplineEnable
  /-- 0x0507 CFG.phase_fudge_ns -/
  | cfgPhaseFudgeNs
  /-- 0x0600 SYS.pending_valid -/
  | sysPendingValid
  /-- 0x0601 SYS.pending_phase -/
  | sysPendingPhase
  /-- 0x0700 ID.block, ASCII DGNS -/
  | idBlock
  /-- 0x0701 ID.protocol -/
  | idProtocol
  /-- 0x0702 ID.tick_hz -/
  | idTickHz
  /-- 0x0703 ID.max_payload -/
  | idMaxPayload
  /-- 0x0704 ID.tsip_checksum -/
  | idTsipChecksum
  deriving DecidableEq, Repr

/-- The number of a register (R22 to R34). -/
def Reg.number : Reg → Nat
  | .tbWeek => 0x0000
  | .tbTow => 0x0001
  | .tbDateSet => 0x0002
  | .gdState => 0x0100
  | .gdLen => 0x0101
  | .gdIdx => 0x0102
  | .gdCls => 0x0103
  | .gdId => 0x0104
  | .gdRx => 0x0105
  | .gdDrain => 0x0106
  | .gdOvf => 0x0107
  | .gdGarbage => 0x0110
  | .gdTooBig => 0x0111
  | .gdCksErr => 0x0112
  | .gdFramingErr => 0x0113
  | .gdUnknown => 0x0114
  | .gdGood => 0x0115
  | .gdFixValid => 0x0120
  | .gdAlarm => 0x0121
  | .gdBlock => 0x0122
  | .gdUtcKnown => 0x0123
  | .gdUtcOffset => 0x0124
  | .hmSystem => 0x0200
  | .hmOsc => 0x0201
  | .hmGps => 0x0202
  | .hmPll => 0x0203
  | .hmFll => 0x0204
  | .hmGpsWdt => 0x0205
  | .hmFllWdt => 0x0206
  | .hmPpsEnabled => 0x0207
  | .hmReftime => 0x0208
  | .hmHoldoverStart => 0x0209
  | .cdPrevPhase => 0x0300
  | .cdPrevValid => 0x0301
  | .cdJumpCounter => 0x0302
  | .cdFiltQ => 0x0303
  | .cdFiltValid => 0x0304
  | .cdFiltered => 0x0305
  | .cdPllAcc => 0x0306
  | .cdPllFactor => 0x0307
  | .cdPllRamp => 0x0308
  | .cdFllRate => 0x0309
  | .cdFllAcc => 0x030A
  | .cdFllFactor => 0x030B
  | .cdFllRamp => 0x030C
  | .cdFllUpdates => 0x030D
  | .cdOscLast => 0x030E
  | .cdRealizedLast => 0x030F
  | .cdSecondsSinceReset => 0x0310
  | .cdHistHead => 0x0311
  | .cdHistCount => 0x0312
  | .cdDitherLast => 0x0313
  | .cdResyncCount => 0x0320
  | .cdJumpSubs => 0x0321
  | .cdSkipped => 0x0322
  | .cfgPllFactorMin => 0x0500
  | .cfgPllFactorMax => 0x0501
  | .cfgFllFactorMin => 0x0502
  | .cfgFllFactorMax => 0x0503
  | .cfgFllRateMax => 0x0504
  | .cfgFllRate => 0x0505
  | .cfgDisciplineEnable => 0x0506
  | .cfgPhaseFudgeNs => 0x0507
  | .sysPendingValid => 0x0600
  | .sysPendingPhase => 0x0601
  | .idBlock => 0x0700
  | .idProtocol => 0x0701
  | .idTickHz => 0x0702
  | .idMaxPayload => 0x0703
  | .idTsipChecksum => 0x0704

/-- The registers of TimeBase (R22). -/
def Reg.tbGroup : List Reg := [
  .tbWeek, .tbTow, .tbDateSet]

/-- The registers of GpsDecoder (R23, R25, R26). -/
def Reg.gdGroup : List Reg := [
  .gdState, .gdLen, .gdIdx, .gdCls, .gdId, .gdRx,
  .gdDrain, .gdOvf, .gdGarbage, .gdTooBig, .gdCksErr, .gdFramingErr,
  .gdUnknown, .gdGood, .gdFixValid, .gdAlarm, .gdBlock, .gdUtcKnown,
  .gdUtcOffset]

/-- The registers of HealthMonitor (R27 to R29). -/
def Reg.hmGroup : List Reg := [
  .hmSystem, .hmOsc, .hmGps, .hmPll, .hmFll, .hmGpsWdt,
  .hmFllWdt, .hmPpsEnabled, .hmReftime, .hmHoldoverStart]

/-- The registers of ClockDiscipline (R30, R31). -/
def Reg.cdGroup : List Reg := [
  .cdPrevPhase, .cdPrevValid, .cdJumpCounter, .cdFiltQ, .cdFiltValid, .cdFiltered,
  .cdPllAcc, .cdPllFactor, .cdPllRamp, .cdFllRate, .cdFllAcc, .cdFllFactor,
  .cdFllRamp, .cdFllUpdates, .cdOscLast, .cdRealizedLast, .cdSecondsSinceReset, .cdHistHead,
  .cdHistCount, .cdDitherLast, .cdResyncCount, .cdJumpSubs, .cdSkipped]

/-- The registers of configuration (R33). -/
def Reg.cfgGroup : List Reg := [
  .cfgPllFactorMin, .cfgPllFactorMax, .cfgFllFactorMin, .cfgFllFactorMax, .cfgFllRateMax, .cfgFllRate,
  .cfgDisciplineEnable, .cfgPhaseFudgeNs]

/-- The registers of command sequencing (R32). -/
def Reg.sysGroup : List Reg := [
  .sysPendingValid, .sysPendingPhase]

/-- The registers of identification (R34). -/
def Reg.idGroup : List Reg := [
  .idBlock, .idProtocol, .idTickHz, .idMaxPayload, .idTsipChecksum]

/-- Every register, in the order of spec/10_state.md's units (R60). -/
def Reg.all : List Reg :=
  List.flatten [Reg.tbGroup, Reg.gdGroup, Reg.hmGroup, Reg.cdGroup, Reg.cfgGroup, Reg.sysGroup, Reg.idGroup]

/-- The register of a number, if a table lists it (R21, R60). -/
def Reg.ofNumber? (n : Nat) : Option Reg := Reg.all.find? (fun r => r.number == n)

/-- The value `x[name]` of a register as an integer: a boolean as 0 or 1, an enumeration as its code, a signed
register as its signed value (R13, R21). -/
def Reg.value (s : State) : Reg → Int
  | .tbWeek => s.tb.week.toNat
  | .tbTow => s.tb.tow.toNat
  | .tbDateSet => boolCode s.tb.dateSet
  | .gdState => s.gd.state.toNat
  | .gdLen => s.gd.len.toNat
  | .gdIdx => s.gd.idx.toNat
  | .gdCls => s.gd.cls.toNat
  | .gdId => s.gd.id.toNat
  | .gdRx => s.gd.rx.toNat
  | .gdDrain => s.gd.drain.toNat
  | .gdOvf => boolCode s.gd.ovf
  | .gdGarbage => s.gd.garbage.toNat
  | .gdTooBig => s.gd.tooBig.toNat
  | .gdCksErr => s.gd.cksErr.toNat
  | .gdFramingErr => s.gd.framingErr.toNat
  | .gdUnknown => s.gd.unknown.toNat
  | .gdGood => s.gd.good.toNat
  | .gdFixValid => boolCode s.gd.fixValid
  | .gdAlarm => s.gd.alarm.code
  | .gdBlock => boolCode s.gd.block
  | .gdUtcKnown => boolCode s.gd.utcKnown
  | .gdUtcOffset => s.gd.utcOffset.toInt
  | .hmSystem => s.hm.system.code
  | .hmOsc => s.hm.osc.code
  | .hmGps => s.hm.gps.code
  | .hmPll => s.hm.pll.code
  | .hmFll => s.hm.fll.code
  | .hmGpsWdt => s.hm.gpsWdt.toNat
  | .hmFllWdt => s.hm.fllWdt.toNat
  | .hmPpsEnabled => boolCode s.hm.ppsEnabled
  | .hmReftime => s.hm.reftime.toNat
  | .hmHoldoverStart => s.hm.holdoverStart.toInt
  | .cdPrevPhase => s.cd.prevPhase.toInt
  | .cdPrevValid => boolCode s.cd.prevValid
  | .cdJumpCounter => s.cd.jumpCounter.toNat
  | .cdFiltQ => s.cd.filtQ.toInt
  | .cdFiltValid => boolCode s.cd.filtValid
  | .cdFiltered => s.cd.filtered.toInt
  | .cdPllAcc => s.cd.pllAcc.toInt
  | .cdPllFactor => s.cd.pllFactor.toNat
  | .cdPllRamp => s.cd.pllRamp.toNat
  | .cdFllRate => s.cd.fllRate.toInt
  | .cdFllAcc => s.cd.fllAcc.toInt
  | .cdFllFactor => s.cd.fllFactor.toNat
  | .cdFllRamp => s.cd.fllRamp.toNat
  | .cdFllUpdates => s.cd.fllUpdates.toNat
  | .cdOscLast => s.cd.oscLast.toInt
  | .cdRealizedLast => s.cd.realizedLast.toInt
  | .cdSecondsSinceReset => s.cd.secondsSinceReset.toNat
  | .cdHistHead => s.cd.histHead.toNat
  | .cdHistCount => s.cd.histCount.toNat
  | .cdDitherLast => s.cd.ditherLast.toInt
  | .cdResyncCount => s.cd.resyncCount.toNat
  | .cdJumpSubs => s.cd.jumpSubs.toNat
  | .cdSkipped => s.cd.skipped.toNat
  | .cfgPllFactorMin => s.cfg.pllFactorMin.toNat
  | .cfgPllFactorMax => s.cfg.pllFactorMax.toNat
  | .cfgFllFactorMin => s.cfg.fllFactorMin.toNat
  | .cfgFllFactorMax => s.cfg.fllFactorMax.toNat
  | .cfgFllRateMax => s.cfg.fllRateMax.toNat
  | .cfgFllRate => s.cd.fllRate.toInt
  | .cfgDisciplineEnable => boolCode s.cfg.disciplineEnable
  | .cfgPhaseFudgeNs => s.cfg.phaseFudgeNs.toInt
  | .sysPendingValid => boolCode s.sys.pendingValid
  | .sysPendingPhase => s.sys.pendingPhase.toInt
  | .idBlock => 0x44474E53
  | .idProtocol => s.build.protocol.code
  | .idTickHz => s.build.tickHz
  | .idMaxPayload => s.build.maxPayload
  | .idTsipChecksum => s.build.tsipChecksum.code

end Sys2Proof.Machine
end

