-- ==== Sys2Proof/Machine/System.lean ====
section
/-! DEFINITION. The system commands (spec/45_system.md): NOP, RESET, SECOND_TICK, CFG_WRITE, READ_REG, READ_PB (R162
to R169). -/

namespace Sys2Proof.Machine

/-- NOP (R162). -/
def execNop (s : State) : Host.Outcome State Fault Refusal := .next (s.start.answer 0 0)

/-- The block reset by command: every register at its reset value, PB and PH all 0 (R163, R187). The instance and
the host's side of the interface are no registers and stay. -/
def blockReset (s : State) : State :=
  { State.powerOn s.build with
    cmdIndex := s.cmdIndex, pending := s.pending, env := s.env, oscIdx := s.oscIdx, resp := s.resp, events := s.events }

/-- RESET (R163, R188): PPS_DISABLE when the PPS output was enabled. -/
def execReset (s : State) : Host.Outcome State Fault Refusal :=
  let t := blockReset s.start
  .next ((if s.hm.ppsEnabled then t.emit .ppsDisable else t).answer 0 0)

/-- `tick_step() -> ran`: the gate on the discipline step (R165). -/
def tickStep (s : State) : Except Fault (State × Bool) :=
  if s.cfg.disciplineEnable && shouldRunDiscipline s.hm then cdStep s.sys.pendingPhase.toInt s.gd.fixValid s
  else .ok (countSkipped s, false)

/-- SECOND_TICK (R164): advance, then aging, then the step on the pending sample. -/
def execSecondTick (s : State) : Host.Outcome State Fault Refusal :=
  let t := hmAge (tbAdvance s.start)
  if t.sys.pendingValid then
    match tickStep t with
    | .ok r =>
      .next ((r.1.withSys { r.1.sys with pendingValid := false }).answer (wrap64 (boolCode r.2)) 0)
    | .error e => .fault e
  else .next (t.answer (wrap64 (boolCode false)) 0)

/-- A 16-bit factor or bound clamped into [lo, hi] (R167). -/
def clampHalf (v lo hi : Int) : Half := BitVec.ofInt 16 (clamp v lo hi)

/-- CD.pll_factor clamped again between its bounds (R167). -/
def reclampPll (s : State) : State :=
  let factor := clampHalf s.cd.pllFactor.toNat s.cfg.pllFactorMin.toNat s.cfg.pllFactorMax.toNat
  s.withCd { s.cd with pllFactor := factor }

/-- CD.fll_factor clamped again between its bounds (R167). -/
def reclampFll (s : State) : State :=
  let factor := clampHalf s.cd.fllFactor.toNat s.cfg.fllFactorMin.toNat s.cfg.fllFactorMax.toNat
  s.withCd { s.cd with fllFactor := factor }

/-- `cfg_set(reg, value) -> v`: the clamp rules, for a value read as unsigned or, for 0x0505 and 0x0507, as
`sext_32` (R166, R167). None where `reg` is not a CFG register. DESIGN CHOICE (log entries 6 and 20): a value that does
not fit its register, which only an instance outside `Build.fits` can bring about, is narrowed to the register's width. -/
def cfgSet (reg value : Nat) (s : State) : Option (State × Int) :=
  let signed : Int := (BitVec.ofNat 32 value).toInt
  match reg with
  | 0x0500 =>
    let v := clamp value 1 s.cfg.pllFactorMax.toNat
    some (reclampPll (s.withCfg { s.cfg with pllFactorMin := BitVec.ofInt 16 v }), v)
  | 0x0501 =>
    let v := clamp value s.cfg.pllFactorMin.toNat s.build.factorLimit
    some (reclampPll (s.withCfg { s.cfg with pllFactorMax := BitVec.ofInt 16 v }), v)
  | 0x0502 =>
    let v := clamp value 1 s.cfg.fllFactorMax.toNat
    some (reclampFll (s.withCfg { s.cfg with fllFactorMin := BitVec.ofInt 16 v }), v)
  | 0x0503 =>
    let v := clamp value s.cfg.fllFactorMin.toNat s.build.factorLimit
    some (reclampFll (s.withCfg { s.cfg with fllFactorMax := BitVec.ofInt 16 v }), v)
  | 0x0504 =>
    let v := clamp value 0 s.build.fllRateLimit
    let t := s.withCfg { s.cfg with fllRateMax := BitVec.ofInt 32 v }
    some (t.withCd { t.cd with fllRate := BitVec.ofInt 32 (clamp t.cd.fllRate.toInt (-v) v) }, v)
  | 0x0505 =>
    let top : Int := s.cfg.fllRateMax.toNat
    let v := clamp signed (-top) top
    some (s.withCd { s.cd with fllRate := BitVec.ofInt 32 v }, v)
  | 0x0506 =>
    some (s.withCfg { s.cfg with disciplineEnable := decide (value ≠ 0) }, boolCode (decide (value ≠ 0)))
  | 0x0507 =>
    let v := clamp signed (-(s.build.phaseFudgeLimit : Int)) s.build.phaseFudgeLimit
    some (s.withCfg { s.cfg with phaseFudgeNs := BitVec.ofInt 32 v }, v)
  | _ => none

/-- CFG_WRITE (R166): r0 is the value held after the write. -/
def execCfgWrite (reg value : Nat) (s : State) : Host.Outcome State Fault Refusal :=
  match cfgSet reg value s.start with
  | some r => .next (r.1.answer (wrap64 r.2) 0)
  | none => .next (s.reject .errRange)

/-- READ_REG (R168): a register, or a history entry already written. -/
def execReadReg (reg : Nat) (s : State) : Host.Outcome State Fault Refusal :=
  match Reg.ofNumber? reg with
  | some r => .next (s.start.answer (wrap64 (r.value s)) 0)
  | none =>
    if 0x0400 ≤ reg ∧ reg < 0x0400 + s.build.phaseHistoryLen ∧ reg - 0x0400 < s.cd.histCount.toNat then
      .next (s.start.answer (wrap64 (s.phEntry (reg - 0x0400)).toInt) 0)
    else .next (s.reject .errRange)

/-- READ_PB (R169). -/
def execReadPb (addr : Nat) (s : State) : Host.Outcome State Fault Refusal :=
  if s.build.maxPayload < addr then .next (s.reject .errRange)
  else .next (s.start.answer (wrap64 ((Cells.read s.pb addr).toNat : Int)) 0)

end Sys2Proof.Machine
end

