-- ==== Sys2Proof/Machine/Dispatch.lean ====
section
/-! DEFINITION. The meaning of every command: one arm per row of spec/opcode_table.json (R55). -/

namespace Sys2Proof.Machine

/-- What a command does (R55). -/
def exec (i : Instr) (s : State) : Host.Outcome State Fault Refusal :=
  match i with
  | .nop => Sys2Proof.Machine.execNop s
  | .reset => Sys2Proof.Machine.execReset s
  | .secondTick => Sys2Proof.Machine.execSecondTick s
  | .ppsCapture tick => Sys2Proof.Machine.execPpsCapture tick s
  | .gpsFeed byte => Sys2Proof.Machine.execGpsFeed byte s
  | .tbSetDate week off tow => Sys2Proof.Machine.execTbSetDate week off tow s
  | .tbTickToNs tick => Sys2Proof.Machine.execTbTickToNs tick s
  | .tbAdvance => Sys2Proof.Machine.execTbAdvance s
  | .tbToNtp tick fudge => Sys2Proof.Machine.execTbToNtp tick fudge s
  | .tbToUnix => Sys2Proof.Machine.execTbToUnix s
  | .tbGetDate => Sys2Proof.Machine.execTbGetDate s
  | .hmSetOsc code => Sys2Proof.Machine.execHmSetOsc code s
  | .hmSetGps code => Sys2Proof.Machine.execHmSetGps code s
  | .hmSetPll code => Sys2Proof.Machine.execHmSetPll code s
  | .hmSetFll code => Sys2Proof.Machine.execHmSetFll code s
  | .hmResetGpsWdt => Sys2Proof.Machine.execHmResetGpsWdt s
  | .hmResetFllWdt => Sys2Proof.Machine.execHmResetFllWdt s
  | .hmUpdate => Sys2Proof.Machine.execHmUpdate s
  | .hmShouldRun => Sys2Proof.Machine.execHmShouldRun s
  | .hmGetStatus => Sys2Proof.Machine.execHmGetStatus s
  | .cdEnterHoldover => Sys2Proof.Machine.execCdEnterHoldover s
  | .cdLeaveHoldover duration => Sys2Proof.Machine.execCdLeaveHoldover duration s
  | .cdStep phase gpsValid => Sys2Proof.Machine.execCdStep phase gpsValid s
  | .cfgWrite reg value => Sys2Proof.Machine.execCfgWrite reg value s
  | .readReg reg => Sys2Proof.Machine.execReadReg reg s
  | .readPb addr => Sys2Proof.Machine.execReadPb addr s

end Sys2Proof.Machine
end

