-- ==== Sys2Proof/Machine/Fetch.lean ====
section
/-! DEFINITION. Taking the host's next command (R20, R47, R52): the block executes the commands one at a time in the
order presented. Nothing is fetched from a store (R16, R50). -/

namespace Sys2Proof.Machine

/-- The state in which the command of request `q` runs: `q` taken off the queue, its environment inputs in force,
the command index one higher (R17, R20; log entry 3). -/
def State.accept (s : State) (q : Request) (rest : List Request) : State :=
  { s with pending := rest, env := q.env, cmdIndex := s.cmdIndex + 1 }

/-- The state with a command presented ahead of those already waiting; its environment inputs are left free. -/
def State.present (s : State) (w : CmdWord) : State :=
  { s with pending := { word := w, env := { oscReplies := [], ditherU := none } } :: s.pending }

end Sys2Proof.Machine
end

