-- ==== Sys2Proof/Machine/Step.lean ====
section
/-! DEFINITION. One step: one command of the host's stream (R7, R20, R44, R47). -/

namespace Sys2Proof.Machine

/-- One step. An instance that breaks R9's constraints is refused; with no command presented the block waits,
unchanged (log entry 3); a reserved opcode is rejected with ERR_OPCODE (R172); every other word runs the command
it decodes to. -/
def step (s : State) : Host.Outcome State Fault Refusal :=
  if s.build.legal then
    match s.pending with
    | [] => .next s
    | q :: rest =>
      match decode q.word with
      | .ok i => exec i (s.accept q rest)
      | .error (.reservedOpcode _) => .next ((s.accept q rest).reject .errOpcode)
  else .refused .illegalInstance

/-- The state with the instruction of a table row presented as the next command: the low `nbits` bits of `w`, every
bit above them 0 (log entries 3 and 11). -/
def State.withFetchWord (s : State) (nbits w : Nat) : State := s.present (BitVec.ofNat 72 (w % 2 ^ nbits))

end Sys2Proof.Machine
end

