-- ==== Sys2Proof/Machine/Assembler.lean ====
section
/-! DEFINITION. The wire frames that a host sends (R61, R63, R65), the pseudo-instructions (R59) and the assembler
syntax (R58). The block does none of this: it is the host's tool, which the spec describes. What R58 leaves open of
the text's form is chosen in log entry 16. -/

namespace Sys2Proof.Machine

/-! ## Wire frames -/

/-- The two bytes of a 16-bit value, high byte first (R41). -/
def bigEndian16 (v : Nat) : List Byte := [BitVec.ofNat 8 (v / 2 ^ 8), BitVec.ofNat 8 v]

/-- The two bytes of a 16-bit value, low byte first (R41). -/
def littleEndian16 (v : Nat) : List Byte := [BitVec.ofNat 8 v, BitVec.ofNat 8 (v / 2 ^ 8)]

/-- The SIRF frame around a payload (R61, R62). DESIGN CHOICE (log entry 16): R59 does not say what SIRF_FRAME does
with 2^15 payload bytes or more, which the 15-bit length cannot declare; the length is cut to 16 bits and the frame is
emitted. -/
def sirfFrame (payload : List Byte) : List Byte :=
  [0xA0, 0xA2] ++ bigEndian16 payload.length ++ payload ++ bigEndian16 (cksSirf payload) ++ [0xB0, 0xB3]

/-- Byte stuffing: a byte of value DLE is sent twice (R63). -/
def stuffed : List Byte → List Byte
  | [] => []
  | b :: rest => if b = dle then dle :: dle :: stuffed rest else b :: stuffed rest

/-- What a TSIP frame carries after its id: the data and, with ADD8, the checksum (R63, R64). -/
def tsipBody (cks : TsipChecksum) (ident : Byte) (data : List Byte) : List Byte :=
  match cks with
  | .add8 => data ++ [cksTsip ident data]
  | .none => data

/-- The TSIP frame of a packet id and data (R63, R64). -/
def tsipFrame (cks : TsipChecksum) (ident : Byte) (data : List Byte) : List Byte :=
  [dle, ident] ++ stuffed (tsipBody cks ident data) ++ [dle, etx]

/-- The UBX frame of a class, an id and a payload (R65, R66). DESIGN CHOICE (log entry 16): R59 does not say what
UBX_FRAME does with 2^16 payload bytes or more, which the length cannot declare; the length is cut to 16 bits and the
frame is emitted. -/
def ubxFrame (cls ident : Byte) (payload : List Byte) : List Byte :=
  let cks := fletcher (ubxCovered cls ident payload)
  [0xB5, 0x62, cls, ident] ++ littleEndian16 payload.length ++ payload ++ [cks.1, cks.2]

/-! ## Pseudo-instructions -/

/-- The pseudo-instructions of R59. -/
inductive Pseudo where
  /-- FEED b0, ..., bk -/
  | feed (bytes : List Byte)
  /-- SIRF_FRAME p0, ..., p(n-1) -/
  | sirfFrame (payload : List Byte)
  /-- TSIP_FRAME id, d0, ..., d(n-1) -/
  | tsipFrame (ident : Byte) (data : List Byte)
  /-- UBX_FRAME cls, id, p0, ..., p(n-1) -/
  | ubxFrame (cls ident : Byte) (payload : List Byte)
  /-- SECOND tick -/
  | second (tick : Nat)
  /-- WAIT n -/
  | wait (n : Nat)
  /-- SET_STATUS osc, gps, pll, fll -/
  | setStatus (osc gps pll fll : Nat)
  deriving DecidableEq, Repr

/-- FEED: one GPS_FEED for each byte (R59). -/
def feedBytes (bytes : List Byte) : List Instr := bytes.map (fun b => .gpsFeed b.toNat)

/-- The commands a pseudo-instruction stands for (R59). -/
def Pseudo.expand (cks : TsipChecksum) : Pseudo → List Instr
  | .feed bytes => feedBytes bytes
  | .sirfFrame payload => feedBytes (Machine.sirfFrame payload)
  | .tsipFrame ident data => feedBytes (Machine.tsipFrame cks ident data)
  | .ubxFrame cls ident payload => feedBytes (Machine.ubxFrame cls ident payload)
  | .second tick => [.ppsCapture tick, .secondTick]
  | .wait n => List.replicate n .secondTick
  | .setStatus osc gps pll fll => [.hmSetOsc osc, .hmSetGps gps, .hmSetPll pll, .hmSetFll fll]

/-! ## Numbers, symbols and names (R58) -/

/-- The value of one digit, in a base up to sixteen. -/
def digitValue? (base : Nat) (c : Char) : Option Nat :=
  let v :=
    if '0' ≤ c ∧ c ≤ '9' then c.toNat - '0'.toNat
    else if 'a' ≤ c ∧ c ≤ 'f' then c.toNat - 'a'.toNat + 10
    else if 'A' ≤ c ∧ c ≤ 'F' then c.toNat - 'A'.toNat + 10
    else 16
  if v < base then some v else none

/-- The value of a run of digits after those that make `acc`. -/
def digits? (base : Nat) : Nat → List Char → Option Nat
  | acc, [] => some acc
  | acc, c :: rest =>
    match digitValue? base c with
    | some v => digits? base (acc * base + v) rest
    | none => none

/-- A natural number: at least one digit. -/
def natural? (base : Nat) (token : List Char) : Option Nat :=
  if token.isEmpty then none else digits? base 0 token

/-- A number: decimal, optionally negative, or hexadecimal after 0x (R58). -/
def number? : List Char → Option Int
  | '-' :: rest => (natural? 10 rest).map (fun v => -(v : Int))
  | '0' :: 'x' :: rest => (natural? 16 rest).map (fun v => (v : Int))
  | token => (natural? 10 token).map (fun v => (v : Int))

/-- A number as the pattern of a `w`-bit field: negative ones in two's complement (log entry 16). -/
def field? (w : Nat) (token : List Char) : Option (BitVec w) :=
  match number? token with
  | some v => if -2 ^ (w - 1) ≤ v ∧ v < 2 ^ w then some (BitVec.ofInt w v) else none
  | none => none

/-- A status symbol (R58). -/
def statusSymbol? (token : List Char) : Option Byte :=
  if token = "UNLOCK".toList then some 0
  else if token = "OK".toList then some 1
  else if token = "MINOR_ALARM".toList then some 2
  else none

/-- The name of a register in the tables of spec/10_state.md; register 0x0505 is an alias and has CD.fll_rate's
(R33). -/
def Reg.name : Reg → String
  | .tbWeek => "TB.week"
  | .tbTow => "TB.tow"
  | .tbDateSet => "TB.date_set"
  | .gdState => "GD.state"
  | .gdLen => "GD.len"
  | .gdIdx => "GD.idx"
  | .gdCls => "GD.cls"
  | .gdId => "GD.id"
  | .gdRx => "GD.rx"
  | .gdDrain => "GD.drain"
  | .gdOvf => "GD.ovf"
  | .gdGarbage => "GD.garbage"
  | .gdTooBig => "GD.too_big"
  | .gdCksErr => "GD.cks_err"
  | .gdFramingErr => "GD.framing_err"
  | .gdUnknown => "GD.unknown"
  | .gdGood => "GD.good"
  | .gdFixValid => "GD.fix_valid"
  | .gdAlarm => "GD.alarm"
  | .gdBlock => "GD.block"
  | .gdUtcKnown => "GD.utc_known"
  | .gdUtcOffset => "GD.utc_offset"
  | .hmSystem => "HM.system"
  | .hmOsc => "HM.osc"
  | .hmGps => "HM.gps"
  | .hmPll => "HM.pll"
  | .hmFll => "HM.fll"
  | .hmGpsWdt => "HM.gps_wdt"
  | .hmFllWdt => "HM.fll_wdt"
  | .hmPpsEnabled => "HM.pps_enabled"
  | .hmReftime => "HM.reftime"
  | .hmHoldoverStart => "HM.holdover_start"
  | .cdPrevPhase => "CD.prev_phase"
  | .cdPrevValid => "CD.prev_valid"
  | .cdJumpCounter => "CD.jump_counter"
  | .cdFiltQ => "CD.filt_q"
  | .cdFiltValid => "CD.filt_valid"
  | .cdFiltered => "CD.filtered"
  | .cdPllAcc => "CD.pll_acc"
  | .cdPllFactor => "CD.pll_factor"
  | .cdPllRamp => "CD.pll_ramp"
  | .cdFllRate => "CD.fll_rate"
  | .cdFllAcc => "CD.fll_acc"
  | .cdFllFactor => "CD.fll_factor"
  | .cdFllRamp => "CD.fll_ramp"
  | .cdFllUpdates => "CD.fll_updates"
  | .cdOscLast => "CD.osc_last"
  | .cdRealizedLast => "CD.realized_last"
  | .cdSecondsSinceReset => "CD.seconds_since_reset"
  | .cdHistHead => "CD.hist_head"
  | .cdHistCount => "CD.hist_count"
  | .cdDitherLast => "CD.dither_last"
  | .cdResyncCount => "CD.resync_count"
  | .cdJumpSubs => "CD.jump_subs"
  | .cdSkipped => "CD.skipped"
  | .cfgPllFactorMin => "CFG.pll_factor_min"
  | .cfgPllFactorMax => "CFG.pll_factor_max"
  | .cfgFllFactorMin => "CFG.fll_factor_min"
  | .cfgFllFactorMax => "CFG.fll_factor_max"
  | .cfgFllRateMax => "CFG.fll_rate_max"
  | .cfgFllRate => "CD.fll_rate"
  | .cfgDisciplineEnable => "CFG.discipline_enable"
  | .cfgPhaseFudgeNs => "CFG.phase_fudge_ns"
  | .sysPendingValid => "SYS.pending_valid"
  | .sysPendingPhase => "SYS.pending_phase"
  | .idBlock => "ID.block"
  | .idProtocol => "ID.protocol"
  | .idTickHz => "ID.tick_hz"
  | .idMaxPayload => "ID.max_payload"
  | .idTsipChecksum => "ID.tsip_checksum"

/-- A register name, or PH.j for history entry j (R58). DESIGN CHOICE (log entry 16): R58 does not say which j the
assembler takes; it takes every j up to 255, also those at or beyond PHASE_HISTORY_LEN, whose number READ_REG then
rejects (R168), and no larger j. -/
def registerName? : List Char → Option Nat
  | 'P' :: 'H' :: '.' :: j =>
    match natural? 10 j with
    | some v => if v < 2 ^ 8 then some (0x0400 + v) else none
    | none => none
  | token => (Reg.all.find? (fun r => r.name.toList == token)).map Reg.number

/-! ## Operands -/

/-- An operand of form U32. -/
def asmU32? (token : List Char) : Option Nat := (field? 32 token).map BitVec.toNat

/-- An operand of form S32. -/
def asmS32? (token : List Char) : Option Int := (field? 32 token).map BitVec.toInt

/-- An operand of form U16. -/
def asmU16? (token : List Char) : Option Nat := (field? 16 token).map BitVec.toNat

/-- An operand of form S16H. -/
def asmS16? (token : List Char) : Option Int := (field? 16 token).map BitVec.toInt

/-- A byte operand. -/
def asmByte? (token : List Char) : Option Byte := field? 8 token

/-- A status operand: a symbol or a number of form U8 (R58). -/
def asmStatus? (token : List Char) : Option Nat :=
  ((statusSymbol? token).or (asmByte? token)).map BitVec.toNat

/-- An operand of form BIT0: 0 or 1 (log entry 16). -/
def asmBit? (token : List Char) : Option Bool :=
  match number? token with
  | some v => if v = 0 then some false else if v = 1 then some true else none
  | none => none

/-- A register-number operand: a number of form U16 or a name (R58). -/
def asmReg? (token : List Char) : Option Nat := (registerName? token).or (asmU16? token)

/-- Every token as a byte. -/
def asmBytes? : List (List Char) → Option (List Byte)
  | [] => some []
  | token :: rest =>
    match asmByte? token, asmBytes? rest with
    | some b, some bs => some (b :: bs)
    | _, _ => none

/-! ## Commands and pseudo-instructions as text -/

/-- The command that a mnemonic and its operands name, in the operand order of R55. -/
def asmCommand? (mnemonic : List Char) (operands : List (List Char)) : Option Instr :=
  match operands with
  | [] =>
    if mnemonic = "NOP".toList then some .nop
    else if mnemonic = "RESET".toList then some .reset
    else if mnemonic = "SECOND_TICK".toList then some .secondTick
    else if mnemonic = "TB_ADVANCE".toList then some .tbAdvance
    else if mnemonic = "TB_TO_UNIX".toList then some .tbToUnix
    else if mnemonic = "TB_GET_DATE".toList then some .tbGetDate
    else if mnemonic = "HM_RESET_GPS_WDT".toList then some .hmResetGpsWdt
    else if mnemonic = "HM_RESET_FLL_WDT".toList then some .hmResetFllWdt
    else if mnemonic = "HM_UPDATE".toList then some .hmUpdate
    else if mnemonic = "HM_SHOULD_RUN".toList then some .hmShouldRun
    else if mnemonic = "HM_GET_STATUS".toList then some .hmGetStatus
    else if mnemonic = "CD_ENTER_HOLDOVER".toList then some .cdEnterHoldover
    else none
  | [x] =>
    if mnemonic = "PPS_CAPTURE".toList then (asmU32? x).map .ppsCapture
    else if mnemonic = "GPS_FEED".toList then (asmByte? x).map (fun b => .gpsFeed b.toNat)
    else if mnemonic = "TB_TICK_TO_NS".toList then (asmU32? x).map .tbTickToNs
    else if mnemonic = "HM_SET_OSC".toList then (asmStatus? x).map .hmSetOsc
    else if mnemonic = "HM_SET_GPS".toList then (asmStatus? x).map .hmSetGps
    else if mnemonic = "HM_SET_PLL".toList then (asmStatus? x).map .hmSetPll
    else if mnemonic = "HM_SET_FLL".toList then (asmStatus? x).map .hmSetFll
    else if mnemonic = "CD_LEAVE_HOLDOVER".toList then (asmU32? x).map .cdLeaveHoldover
    else if mnemonic = "READ_REG".toList then (asmReg? x).map .readReg
    else if mnemonic = "READ_PB".toList then (asmU16? x).map .readPb
    else none
  | [x, y] =>
    if mnemonic = "TB_TO_NTP".toList then
      match asmU32? x, asmS32? y with
      | some tick, some fudge => some (.tbToNtp tick fudge)
      | _, _ => none
    else if mnemonic = "CD_STEP".toList then
      match asmS32? x, asmBit? y with
      | some phase, some valid => some (.cdStep phase valid)
      | _, _ => none
    else if mnemonic = "CFG_WRITE".toList then
      match asmReg? x, asmU32? y with
      | some reg, some value => some (.cfgWrite reg value)
      | _, _ => none
    else none
  | [x, y, z] =>
    if mnemonic = "TB_SET_DATE".toList then
      match asmU16? x, asmS16? y, asmU32? z with
      | some week, some off, some tow => some (.tbSetDate week off tow)
      | _, _, _ => none
    else none
  | _ => none

/-- The pseudo-instruction that a name and its operands stand for (R59). -/
def asmPseudo? (mnemonic : List Char) (operands : List (List Char)) : Option Pseudo :=
  if mnemonic = "FEED".toList then
    if operands.isEmpty then none else (asmBytes? operands).map .feed
  else if mnemonic = "SIRF_FRAME".toList then (asmBytes? operands).map .sirfFrame
  else if mnemonic = "TSIP_FRAME".toList then
    match asmBytes? operands with
    | some (ident :: data) => if ident = dle ∨ ident = etx then none else some (.tsipFrame ident data)
    | _ => none
  else if mnemonic = "UBX_FRAME".toList then
    match asmBytes? operands with
    | some (cls :: ident :: payload) => some (.ubxFrame cls ident payload)
    | _ => none
  else
    match operands with
    | [x] =>
      if mnemonic = "SECOND".toList then (asmU32? x).map .second
      else if mnemonic = "WAIT".toList then
        match number? x with
        | some v => if 0 ≤ v then some (.wait v.toNat) else none
        | none => none
      else none
    | [o, g, p, f] =>
      if mnemonic = "SET_STATUS".toList then
        match asmStatus? o, asmStatus? g, asmStatus? p, asmStatus? f with
        | some osc, some gps, some pll, some fll => some (.setStatus osc gps pll fll)
        | _, _, _, _ => none
      else none
    | _ => none

/-! ## Lines -/

/-- A space or a tab. -/
def isBlank (c : Char) : Bool := c == ' ' || c == '\t' || c == '\r'

/-- The text without blanks at either end. -/
def trimmed (text : List Char) : List Char :=
  ((text.dropWhile isBlank).reverse.dropWhile isBlank).reverse

/-- The text cut at every occurrence of a character. -/
def cutAt (sep : Char) : List Char → List (List Char)
  | [] => [[]]
  | c :: rest =>
    match cutAt sep rest with
    | [] => [[c]]
    | piece :: pieces => if c == sep then [] :: piece :: pieces else (c :: piece) :: pieces

/-- The line without its comment (R58). -/
def withoutComment (line : List Char) : List Char := line.takeWhile (fun c => c != ';')

/-- The line without the label at its start, if it has one (R58). -/
def withoutLabel (line : List Char) : List Char :=
  if line.contains ':' then (line.dropWhile (fun c => c != ':')).drop 1 else line

/-- The operands of a command: the text after its mnemonic, cut at the commas. -/
def operandTokens (text : List Char) : List (List Char) :=
  if (trimmed text).isEmpty then [] else (cutAt ',' text).map trimmed

/-- The commands one line stands for: none for a blank line, one for a command, a pseudo-instruction's expansion;
no answer for a line that is not of R58's or R59's form. -/
def asmLine? (cks : TsipChecksum) (line : List Char) : Option (List Instr) :=
  let body := trimmed (withoutLabel (withoutComment line))
  let mnemonic := body.takeWhile (fun c => !isBlank c)
  let operands := operandTokens (body.dropWhile (fun c => !isBlank c))
  if body.isEmpty then some []
  else match asmCommand? mnemonic operands with
    | some i => some [i]
    | none => (asmPseudo? mnemonic operands).map (Pseudo.expand cks)

/-- The commands of several lines, in order. -/
def asmLines? (cks : TsipChecksum) : List (List Char) → Option (List Instr)
  | [] => some []
  | line :: rest =>
    match asmLine? cks line, asmLines? cks rest with
    | some is, some more => some (is ++ more)
    | _, _ => none

/-- The assembler: the words of a text (R58, R59). -/
def assemble? (cks : TsipChecksum) (text : String) : Option (List CmdWord) :=
  (asmLines? cks (cutAt '\n' text.toList)).map (List.map encode)

end Sys2Proof.Machine
end

