-- ==== Sys2Proof/WellFormed.lean ====
section
/-! DEFINITION. Well-formed commands: each operand lies in the range of its operand form (R53), so that the
encoding of R52 can hold it. What a command does with a legal operand that its rule rejects (ERR_RANGE, R173) is
part of its meaning, not of well-formedness. -/

namespace Sys2Proof

/-- An operand of form U32 (R53): 0 to 2^32 - 1. -/
def fitsU32 (v : Nat) : Bool := decide (v < 2 ^ 32)

/-- An operand of form U16 (R53): 0 to 2^16 - 1. -/
def fitsU16 (v : Nat) : Bool := decide (v < 2 ^ 16)

/-- An operand of form U8 (R53): 0 to 2^8 - 1. -/
def fitsU8 (v : Nat) : Bool := decide (v < 2 ^ 8)

/-- An operand of form S32 (R53): -2^31 to 2^31 - 1. -/
def fitsS32 (v : Int) : Bool := decide (-2 ^ 31 ≤ v) && decide (v < 2 ^ 31)

/-- An operand of form S16H (R53): -2^15 to 2^15 - 1. -/
def fitsS16 (v : Int) : Bool := decide (-2 ^ 15 ≤ v) && decide (v < 2 ^ 15)

/-- Every operand of the command is in the range of its operand form (R53, R55). -/
def Instr.wellFormed : Instr → Bool
  | .nop => true
  | .reset => true
  | .secondTick => true
  | .ppsCapture tick => fitsU32 tick
  | .gpsFeed byte => fitsU8 byte
  | .tbSetDate week off tow => fitsU16 week && fitsS16 off && fitsU32 tow
  | .tbTickToNs tick => fitsU32 tick
  | .tbAdvance => true
  | .tbToNtp tick fudge => fitsU32 tick && fitsS32 fudge
  | .tbToUnix => true
  | .tbGetDate => true
  | .hmSetOsc code => fitsU8 code
  | .hmSetGps code => fitsU8 code
  | .hmSetPll code => fitsU8 code
  | .hmSetFll code => fitsU8 code
  | .hmResetGpsWdt => true
  | .hmResetFllWdt => true
  | .hmUpdate => true
  | .hmShouldRun => true
  | .hmGetStatus => true
  | .cdEnterHoldover => true
  | .cdLeaveHoldover duration => fitsU32 duration
  | .cdStep phase _ => fitsS32 phase
  | .cfgWrite reg value => fitsU16 reg && fitsU32 value
  | .readReg reg => fitsU16 reg
  | .readPb addr => fitsU16 addr

end Sys2Proof
end

