-- ==== Sys2Proof/Safety.lean ====
section
/-! DEFINITION. What counts as a state of a running block: the invariants of R37, R131 and R142 and the ranges of the
discipline's registers; which operands a command rejects (R173); and the relations that frames are stated with. -/

namespace Sys2Proof

/-- The build parameters lie in the ranges for which every register of spec/10_state.md holds every value its rules
write to it (R11, R167; log entry 8). R9's defaults lie inside them. R9 admits instances outside them too: log entry 20 says what
the model does there. -/
def Build.fits (b : Build) : Bool :=
  decide (b.maxPayload < 2 ^ 16 - 1
    ∧ 2 ^ 15 ≤ b.weekSeconds ∧ b.weekSeconds ≤ 2 ^ 32
    ∧ 1024 ≤ b.factorLimit ∧ b.factorLimit < 2 ^ 16
    ∧ 2000 ≤ b.fllRateLimit ∧ b.fllRateLimit < 2 ^ 31
    ∧ b.phaseFudgeLimit ≤ 500000000
    ∧ b.resyncPhaseNs ≤ 1000000000
    ∧ b.filtFracBits ≤ 32
    ∧ b.pllCarryMax ≤ 2 ^ 32
    ∧ b.fllSmoothing ≤ 2 ^ 32
    ∧ b.timerTrimMax * b.timerGranPpt ≤ 2 ^ 62)

end Sys2Proof

namespace Sys2Proof.Machine

/-! ## Invariants -/

/-- What the framing registers satisfy in a SIRF framing state: a frame in progress fits the payload buffer (R39,
R89), and a drain in progress has bytes left (R92). -/
def sirfStateOk (b : Build) (gd : GpsDecoder) : SirfState → Prop
  | .sync1 | .sync2 | .len1 | .len2 => True
  | .payload => gd.idx.toNat < gd.len.toNat ∧ gd.len.toNat ≤ b.maxPayload
  | .ck1 | .ck2 | .end1 | .end2 => gd.len.toNat ≤ b.maxPayload
  | .drain => 1 ≤ gd.drain.toNat

/-- What the framing registers satisfy in a UBX framing state (R39, R89, R105). -/
def ubxStateOk (b : Build) (gd : GpsDecoder) : UbxState → Prop
  | .sync1 | .sync2 | .cls | .ident | .len1 | .len2 => True
  | .payload => gd.idx.toNat < gd.len.toNat ∧ gd.len.toNat ≤ b.maxPayload
  | .ckA | .ckB => gd.len.toNat ≤ b.maxPayload
  | .drain => 1 ≤ gd.drain.toNat

/-- GD.state holds a code of the instance's protocol (R24), the framing registers agree with it, and the registers
that the protocol does not use are at their reset values (R23). -/
def State.FramingOk (s : State) : Prop :=
  match s.build.protocol with
  | .sirf =>
    s.gd.cls = 0 ∧ s.gd.id = 0 ∧ s.gd.ovf = false ∧
      ∃ st, SirfState.ofCode? s.gd.state = some st ∧ sirfStateOk s.build s.gd st
  | .tsip =>
    s.gd.len = 0 ∧ s.gd.cls = 0 ∧ s.gd.rx = 0 ∧ s.gd.drain = 0 ∧ s.gd.idx.toNat ≤ tsipCap s.build ∧
      ∃ st, TsipState.ofCode? s.gd.state = some st
  | .ubx =>
    s.gd.ovf = false ∧ ∃ st, UbxState.ofCode? s.gd.state = some st ∧ ubxStateOk s.build s.gd st

/-- The invariants of R37, with those of R131 (a) and (b) and of R33's legal values, and the canonical form of the
two stores (log entry 9). -/
structure State.Inv (s : State) : Prop where
  /-- x[TB.tow] < WEEK_SECONDS -/
  tow : s.tb.tow.toNat < s.build.weekSeconds
  /-- x[HM.pps_enabled] = 1 exactly when x[HM.system] ≠ UNLOCK -/
  pps : s.hm.ppsEnabled = true ↔ s.hm.system ≠ .unlock
  /-- x[HM.osc] ∈ (UNLOCK, OK) -/
  osc : s.hm.osc ≠ .minorAlarm
  /-- x[HM.pll] ∈ (UNLOCK, OK) -/
  pll : s.hm.pll ≠ .minorAlarm
  /-- x[HM.fll] ∈ (UNLOCK, OK) -/
  fll : s.hm.fll ≠ .minorAlarm
  /-- x[HM.system] = OK implies x[HM.gps] ≠ UNLOCK -/
  okGps : s.hm.system = .ok → s.hm.gps ≠ .unlock
  /-- 1 ≤ x[CFG.pll_factor_min] -/
  pllMin : 1 ≤ s.cfg.pllFactorMin.toNat
  /-- x[CFG.pll_factor_min] ≤ x[CD.pll_factor] -/
  pllLow : s.cfg.pllFactorMin.toNat ≤ s.cd.pllFactor.toNat
  /-- x[CD.pll_factor] ≤ x[CFG.pll_factor_max] -/
  pllHigh : s.cd.pllFactor.toNat ≤ s.cfg.pllFactorMax.toNat
  /-- x[CFG.pll_factor_max] ≤ FACTOR_LIMIT -/
  pllMax : s.cfg.pllFactorMax.toNat ≤ s.build.factorLimit
  /-- 1 ≤ x[CFG.fll_factor_min] -/
  fllMin : 1 ≤ s.cfg.fllFactorMin.toNat
  /-- x[CFG.fll_factor_min] ≤ x[CD.fll_factor] -/
  fllLow : s.cfg.fllFactorMin.toNat ≤ s.cd.fllFactor.toNat
  /-- x[CD.fll_factor] ≤ x[CFG.fll_factor_max] -/
  fllHigh : s.cd.fllFactor.toNat ≤ s.cfg.fllFactorMax.toNat
  /-- x[CFG.fll_factor_max] ≤ FACTOR_LIMIT -/
  fllMax : s.cfg.fllFactorMax.toNat ≤ s.build.factorLimit
  /-- x[CFG.fll_rate_max] ≤ FLL_RATE_LIMIT -/
  rateMax : s.cfg.fllRateMax.toNat ≤ s.build.fllRateLimit
  /-- abs(x[CD.fll_rate]) ≤ x[CFG.fll_rate_max] -/
  rate : s.cd.fllRate.toInt.natAbs ≤ s.cfg.fllRateMax.toNat
  /-- abs(x[CFG.phase_fudge_ns]) ≤ PHASE_FUDGE_LIMIT -/
  fudge : s.cfg.phaseFudgeNs.toInt.natAbs ≤ s.build.phaseFudgeLimit
  /-- x[CD.jump_counter] ≤ JUMP_CAP -/
  jump : s.cd.jumpCounter.toNat ≤ s.build.jumpCap
  /-- x[CD.hist_count] ≤ PHASE_HISTORY_LEN -/
  histCount : s.cd.histCount.toNat ≤ s.build.phaseHistoryLen
  /-- x[CD.hist_head] < PHASE_HISTORY_LEN -/
  histHead : s.cd.histHead.toNat < s.build.phaseHistoryLen
  /-- x[GD.idx] ≤ MAX_PAYLOAD + 1 -/
  idx : s.gd.idx.toNat ≤ s.build.maxPayload + 1
  /-- the framing registers agree with the framing state -/
  framing : s.FramingOk
  /-- PB is in canonical form -/
  pbForm : Memory.wf s.pb = true
  /-- PB has no address above MAX_PAYLOAD -/
  pbBelow : Cells.below s.pb (s.build.maxPayload + 1) = true
  /-- PH is in canonical form -/
  phForm : Cells.wf s.ph = true
  /-- PH has no index at or beyond PHASE_HISTORY_LEN -/
  phBelow : Cells.below s.ph s.build.phaseHistoryLen = true

/-- The ranges that the discipline rules argue for their registers, so that each write is exact (R11, R142, R145,
R147, R151, R152, R161 (f)). -/
structure State.Bounded (s : State) : Prop where
  /-- every accepted sample has abs(p) ≤ RESYNC_PHASE_NS (R145) -/
  prev : s.cd.prevValid = true → s.cd.prevPhase.toInt.natAbs ≤ s.build.resyncPhaseNs
  /-- steps are counted only once a sample has been accepted (R142) -/
  settled : s.cd.prevValid = false → s.cd.secondsSinceReset = 0
  /-- the filter state lies between the samples fed (R147) -/
  filt : s.cd.filtValid = true → s.cd.filtQ.toInt.natAbs ≤ s.build.resyncPhaseNs * 2 ^ s.build.filtFracBits
  /-- the PLL accumulator, in terms of the largest factor (R152) -/
  pllAcc : s.cd.pllAcc.toInt.natAbs < (s.build.pllCarryMax + 1) * s.build.factorLimit
  /-- the FLL accumulator, in terms of the largest factor (R149) -/
  fllAcc : s.cd.fllAcc.toInt.natAbs < s.build.factorLimit * s.build.fllSmoothing
  /-- a realized rate is a reply and a trim (R151) -/
  realized : s.cd.realizedLast.toInt.natAbs ≤ 2 ^ 31 + s.build.timerTrimMax * s.build.timerGranPpt
  /-- the pending sample is a folded phase (R76, R141) -/
  pending : s.sys.pendingPhase.toInt.natAbs ≤ 500000000

/-! ## Frames -/

/-- Every register of the block, PB and PH are as before. -/
def State.KeepsBlock (s t : State) : Prop :=
  t.tb = s.tb ∧ t.gd = s.gd ∧ t.hm = s.hm ∧ t.cd = s.cd ∧ t.sys = s.sys ∧ t.cfg = s.cfg ∧
    (∀ a, Cells.read t.pb a = Cells.read s.pb a) ∧ (∀ j, Cells.read t.ph j = Cells.read s.ph j)

/-- The instance, the commands still waiting, the environment inputs and the command index are as before. -/
def State.KeepsHost (s t : State) : Prop :=
  t.build = s.build ∧ t.pending = s.pending ∧ t.env = s.env ∧ t.cmdIndex = s.cmdIndex

/-- Every byte of PB and every entry of PH reads as before. -/
def State.KeepsStores (s t : State) : Prop :=
  (∀ a, Cells.read t.pb a = Cells.read s.pb a) ∧ (∀ j, Cells.read t.ph j = Cells.read s.ph j)

/-- A step at `p` accepts the sample `a`: `p` itself where it is no jump or the jump counter is at JUMP_CAP, the
previous sample where the counter still absorbs the jump (R144), and `a` does not resync (R145). -/
def State.Accepts (s : State) (p a : Int) : Prop :=
  ((a = p ∧ (s.cd.prevValid = false ∨ (p - s.cd.prevPhase.toInt).natAbs < s.build.jumpThresholdNs ∨
        s.cd.jumpCounter.toNat = s.build.jumpCap)) ∨
      (a = s.cd.prevPhase.toInt ∧ s.cd.prevValid = true ∧
        s.build.jumpThresholdNs ≤ (p - s.cd.prevPhase.toInt).natAbs ∧ s.cd.jumpCounter.toNat < s.build.jumpCap)) ∧
    a.natAbs ≤ s.build.resyncPhaseNs ∧
    (s.cd.prevValid = true → (a - s.cd.prevPhase.toInt).natAbs ≤ s.build.resyncJumpNs)

/-- A step from `s` to `t` leaves HOLDOVER for OK in its Pll setter (R155, R123, R125), which anneals both factors
(R126, R157): the first update of the lock evaluation sees Gps, Osc and Pll good and Fll not yet lost. -/
def State.AnnealsInStep (s t : State) : Prop :=
  s.hm.system = .holdover ∧ s.hm.fll ≠ .unlock ∧ s.hm.gps = .ok ∧ s.hm.osc = .ok ∧ t.hm.pll = .ok

/-- `pf` and `ff` are the factors after the ramps of a step from `s` to `t` that accepted a sample, before its lock
evaluation (R153). -/
def State.Ramped (s t : State) (pf ff : Half) : Prop :=
  pf.toNat = (if t.cd.filtered.toInt.natAbs ≤ s.build.pllHealthyNs ∧
      s.build.pllRampInterval ≤ min (s.cd.pllRamp.toNat + 1) (2 ^ 32 - 1)
    then min (s.cd.pllFactor.toNat + 1) s.cfg.pllFactorMax.toNat else s.cd.pllFactor.toNat) ∧
  ff.toNat = (if s.build.fllSettleS ≤ s.cd.secondsSinceReset.toNat ∧
      s.build.fllRampInterval ≤ min (s.cd.fllRamp.toNat + 1) (2 ^ 32 - 1)
    then min (s.cd.fllFactor.toNat + 1) s.cfg.fllFactorMax.toNat else s.cd.fllFactor.toNat)

/-! ## Commands -/

/-- The register numbers that the tables of spec/10_state.md list (R22 to R34), as ranges. -/
def isRegisterNumber (reg : Nat) : Prop :=
  reg ≤ 0x0002 ∨ (0x0100 ≤ reg ∧ reg ≤ 0x0107) ∨ (0x0110 ≤ reg ∧ reg ≤ 0x0115) ∨ (0x0120 ≤ reg ∧ reg ≤ 0x0124)
    ∨ (0x0200 ≤ reg ∧ reg ≤ 0x0209) ∨ (0x0300 ≤ reg ∧ reg ≤ 0x0313) ∨ (0x0320 ≤ reg ∧ reg ≤ 0x0322)
    ∨ (0x0500 ≤ reg ∧ reg ≤ 0x0507) ∨ (0x0600 ≤ reg ∧ reg ≤ 0x0601) ∨ (0x0700 ≤ reg ∧ reg ≤ 0x0704)

/-- The table of R173: when a command is rejected with ERR_RANGE. -/
def rangeRejects (i : Instr) (s : State) : Prop :=
  match i with
  | .ppsCapture tick => s.build.tickHz ≤ tick
  | .tbSetDate _ _ tow => s.build.weekSeconds ≤ tow
  | .tbTickToNs tick => s.build.tickHz ≤ tick
  | .tbToNtp tick _ => s.build.tickHz ≤ tick
  | .hmSetOsc code => 1 < code
  | .hmSetGps code => 2 < code
  | .hmSetPll code => 1 < code
  | .hmSetFll code => 1 < code
  | .cfgWrite reg _ => reg < 0x0500 ∨ 0x0507 < reg
  | .readReg reg =>
    ¬ isRegisterNumber reg ∧
      ¬ (0x0400 ≤ reg ∧ reg < 0x0400 + s.build.phaseHistoryLen ∧ reg - 0x0400 < s.cd.histCount.toNat)
  | .readPb addr => s.build.maxPayload < addr
  | .nop | .reset | .secondTick | .gpsFeed _ | .tbAdvance | .tbToUnix | .tbGetDate | .hmResetGpsWdt
  | .hmResetFllWdt | .hmUpdate | .hmShouldRun | .hmGetStatus | .cdEnterHoldover | .cdLeaveHoldover _
  | .cdStep _ _ => False

/-- The bits of the command word that the operand forms of an opcode name, its op field among them (R53, R55). -/
def namedBits (op : Byte) : CmdWord :=
  match op.toNat with
  | 0x11 | 0x21 | 0x41 => 0xFF_FFFFFFFF_00000000
  | 0x12 | 0x30 | 0x31 | 0x32 | 0x33 => 0xFF_000000FF_00000000
  | 0x20 | 0x23 => 0xFF_FFFFFFFF_FFFFFFFF
  | 0x42 => 0xFF_FFFFFFFF_00000001
  | 0x50 => 0xFF_0000FFFF_FFFFFFFF
  | 0x51 | 0x52 => 0xFF_0000FFFF_00000000
  | _ => 0xFF_00000000_00000000

/-- The block after a run of GPS_FEED commands, one for each byte, as the pseudo-instruction FEED gives them (R59,
R88): the last command's response and events are in the state. -/
def feedAll : List Byte → State → Host.Outcome State Fault Refusal
  | [], s => .next s
  | b :: rest, s =>
    match exec (.gpsFeed b.toNat) s with
    | .next t => feedAll rest t
    | .fault e => .fault e
    | .refused r => .refused r

end Sys2Proof.Machine
end

