-- ==== Sys2Proof/Certificates/Slice0/Obligations.lean ====
section
/-! DEFINITION. The statements about the model, for the provers. Each says which rule of spec/ it formalises, or what
it is derived from. `exec i s = .next t` is the conclusion wherever a statement says that a command completes. -/

open Sys2Proof Sys2Proof.Machine

/-! ## Encoding -/

/-- R52 and R53: the 72-bit word of value op · 2^64 + a · 2^32 + b decodes by op alone, and every operand is read
from its field as its form says, whatever the other bits hold. -/
def Obligations.OpcodeMapAndOperandForms : Prop :=
  ∀ (a b : Word) (word : Nat → CmdWord),
    (∀ op, word op = BitVec.ofNat 72 (op * 2 ^ 64 + a.toNat * 2 ^ 32 + b.toNat)) →
    decode (word 0x00) = .ok .nop ∧
    decode (word 0x01) = .ok .reset ∧
    decode (word 0x10) = .ok .secondTick ∧
    decode (word 0x11) = .ok (.ppsCapture a.toNat) ∧
    decode (word 0x12) = .ok (.gpsFeed (a.toNat % 2 ^ 8)) ∧
    decode (word 0x20) = .ok (.tbSetDate (a.toNat % 2 ^ 16) (a.toInt / 2 ^ 16) b.toNat) ∧
    decode (word 0x21) = .ok (.tbTickToNs a.toNat) ∧
    decode (word 0x22) = .ok .tbAdvance ∧
    decode (word 0x23) = .ok (.tbToNtp a.toNat b.toInt) ∧
    decode (word 0x24) = .ok .tbToUnix ∧
    decode (word 0x25) = .ok .tbGetDate ∧
    decode (word 0x30) = .ok (.hmSetOsc (a.toNat % 2 ^ 8)) ∧
    decode (word 0x31) = .ok (.hmSetGps (a.toNat % 2 ^ 8)) ∧
    decode (word 0x32) = .ok (.hmSetPll (a.toNat % 2 ^ 8)) ∧
    decode (word 0x33) = .ok (.hmSetFll (a.toNat % 2 ^ 8)) ∧
    decode (word 0x34) = .ok .hmResetGpsWdt ∧
    decode (word 0x35) = .ok .hmResetFllWdt ∧
    decode (word 0x36) = .ok .hmUpdate ∧
    decode (word 0x37) = .ok .hmShouldRun ∧
    decode (word 0x38) = .ok .hmGetStatus ∧
    decode (word 0x40) = .ok .cdEnterHoldover ∧
    decode (word 0x41) = .ok (.cdLeaveHoldover a.toNat) ∧
    decode (word 0x42) = .ok (.cdStep a.toInt (decide (b.toNat % 2 = 1))) ∧
    decode (word 0x50) = .ok (.cfgWrite (a.toNat % 2 ^ 16) b.toNat) ∧
    decode (word 0x51) = .ok (.readReg (a.toNat % 2 ^ 16)) ∧
    decode (word 0x52) = .ok (.readPb (a.toNat % 2 ^ 16))

/-- Words that the spec writes out beside a command decode to that command: one of each group of R55. -/
def Obligations.SpecWordsDecode : Prop :=
  decode 0x00_00000000_00000000 = .ok .nop ∧
  decode 0x01_00000000_00000000 = .ok .reset ∧
  decode 0x10_00000000_00000000 = .ok .secondTick ∧
  decode 0x11_002625A0_00000000 = .ok (.ppsCapture 2500000) ∧
  decode 0x12_000000B5_00000000 = .ok (.gpsFeed 0xB5) ∧
  decode 0x20_FFEE08FC_0000000A = .ok (.tbSetDate 2300 (-18) 10) ∧
  decode 0x30_00000001_00000000 = .ok (.hmSetOsc 1) ∧
  decode 0x41_00001C20_00000000 = .ok (.cdLeaveHoldover 7200) ∧
  decode 0x42_000001F4_00000001 = .ok (.cdStep 500 true) ∧
  decode 0x50_00000505_FFFFF448 = .ok (.cfgWrite 0x0505 0xFFFFF448) ∧
  decode 0x51_00000700_00000000 = .ok (.readReg 0x0700) ∧
  decode 0x52_00000100_00000000 = .ok (.readPb 256)

/-- Decoding an encoded well-formed command gives it back, with every operand at every value its form admits (R52,
R53, R55). -/
def Obligations.DecodeOfEncode : Prop :=
  ∀ i : Instr, i.wellFormed = true → decode (encode i) = .ok i

/-- A decoded command is well-formed, and its own word is the one decoded with every bit that its operand forms do
not name set to 0 (R53, R58). -/
def Obligations.EncodeOfDecode : Prop :=
  ∀ (w : CmdWord) (i : Instr), decode w = .ok i →
    i.wellFormed = true ∧ encode i = w &&& namedBits (opField w)

/-- R172 and R174: a reserved opcode is answered with ERR_OPCODE, r0 = r1 = 0 and no event, whatever a and b hold, and
changes no state of the block (R56). That the command is then off the queue and counted in the command index is the
model's choice (log entry 3). -/
def Obligations.ReservedOpcodeIsRejected : Prop :=
  ∀ (s : State) (q : Request) (rest : List Request) (op : Nat),
    s.build.legal = true → s.pending = q :: rest → op = (opField q.word).toNat →
    (0x02 ≤ op ∧ op ≤ 0x0F) ∨ (0x13 ≤ op ∧ op ≤ 0x1F) ∨ (0x26 ≤ op ∧ op ≤ 0x2F) ∨ (0x39 ≤ op ∧ op ≤ 0x3F) ∨
      (0x43 ≤ op ∧ op ≤ 0x4F) ∨ (0x53 ≤ op ∧ op ≤ 0xFF) →
    ∃ t, step s = .next t ∧ t.resp = ⟨.errOpcode, 0, 0⟩ ∧ t.events = [] ∧ s.KeepsBlock t ∧
      t.build = s.build ∧ t.pending = rest ∧ t.cmdIndex = s.cmdIndex + 1

/-! ## The step -/

/-- When the next command's word decodes to a well-formed command, the step is exec of it, in the state in which the
request has been taken off the queue, its environment inputs are in force and the command index is one higher
(R17, R20, R47; the queue is log entry 3's). -/
def Obligations.StepRunsDecodedCommand : Prop :=
  ∀ (s : State) (q : Request) (rest : List Request) (i : Instr),
    s.build.legal = true → s.pending = q :: rest → decode q.word = .ok i → i.wellFormed = true →
    step s = exec i (s.accept q rest) ∧ s.KeepsBlock (s.accept q rest) ∧ (s.accept q rest).build = s.build ∧
      (s.accept q rest).pending = rest ∧ (s.accept q rest).env = q.env ∧
      (s.accept q rest).cmdIndex = s.cmdIndex + 1

/-- Where no command runs: with none presented the step leaves everything as it is (log entry 3), and an instance that
breaks R9's constraints is refused (R9, log entry 5). -/
def Obligations.StepWithoutCommand : Prop :=
  ∀ s : State,
    (s.build.legal = true → s.pending = [] → step s = .next s) ∧
    (s.build.legal = false → step s = .refused .illegalInstance)

/-- The word of any well-formed command, presented as the next one, is run by the very next step (log entries 3 and
11), and nothing but the host's side of the interface is set for it. -/
def Obligations.FetchWordRuns : Prop :=
  ∀ (s : State) (i : Instr), s.build.legal = true → i.wellFormed = true →
    ∃ u : State, step (s.withFetchWord 72 (encode i).toNat) = exec i u ∧ s.KeepsBlock u ∧ u.build = s.build ∧
      u.pending = s.pending ∧ u.cmdIndex = s.cmdIndex + 1

/-! ## Every command -/

/-- Every well-formed command completes from every state that meets the invariants, with ERR_RANGE exactly on the
operands of R173's table and OK on all others: no internal operation fails (R173, R176). The table's bound on tow is
WEEK_SECONDS, which R173 writes as 604800 (log entry 14). -/
def Obligations.EveryCommandCompletes : Prop :=
  ∀ (s : State) (i : Instr), i.wellFormed = true → s.build.legal = true → s.build.fits = true → s.Inv →
    ∃ t, exec i s = .next t ∧ (rangeRejects i s → t.resp.status = .errRange) ∧
      (¬ rangeRejects i s → t.resp.status = .ok)

/-- R174: a rejected command, with ERR_RANGE or with ERR_OPCODE, leaves every register, PB and PH as they were, emits
nothing, returns r0 = r1 = 0, and asks nothing of the environment: its answer is the same whatever the inputs are.
R173's bound on tow is WEEK_SECONDS, written as 604800 there (log entry 14). -/
def Obligations.RejectedCommandHasNoEffect : Prop :=
  (∀ (s : State) (i : Instr), rangeRejects i s →
    ∃ t, exec i s = .next t ∧ t.resp = ⟨.errRange, 0, 0⟩ ∧ t.events = [] ∧ s.KeepsBlock t ∧ s.KeepsHost t ∧
      ∀ e : EnvInputs, exec i { s with env := e } = .next { t with env := e }) ∧
  (∀ (s : State) (q : Request) (rest : List Request) (op : Byte), s.build.legal = true → s.pending = q :: rest →
    decode q.word = .error (.reservedOpcode op) →
    ∃ t, step s = .next t ∧ t.resp = ⟨.errOpcode, 0, 0⟩ ∧ t.events = [] ∧ s.KeepsBlock t ∧
      ∀ e : EnvInputs, step { s with pending := { q with env := e } :: rest } = .next { t with env := e })

/-- The state after power-on meets the invariants, for every legal instance whose parameters fit, State.reset's among
them (R37, R187). R37's bound on TB.tow is WEEK_SECONDS, written as 604800 there (log entry 14). -/
def Obligations.PowerOnMeetsInvariants : Prop :=
  (∀ b : Build, b.legal = true → b.fits = true → (State.powerOn b).Inv ∧ (State.powerOn b).Bounded) ∧
    State.reset.Inv ∧ State.reset.Bounded

/-- Every step keeps the invariants of R37 and R131, from every state that meets them. R37's bound on TB.tow is
WEEK_SECONDS, written as 604800 there (log entry 14). -/
def Obligations.StepKeepsInvariants : Prop :=
  ∀ s t : State, s.build.fits = true → s.Inv → step s = .next t → t.Inv

/-- Every step keeps the ranges that the discipline's rules argue for their registers (R142, R145, R147, R149, R151,
R152), from every state that meets the invariants and the ranges. -/
def Obligations.StepKeepsRanges : Prop :=
  ∀ s t : State, s.build.fits = true → s.Inv → s.Bounded → step s = .next t → t.Bounded

/-- Which commands can write which state (R21's "written by" columns, R22 to R33, R38): a register, a byte of PB or an
entry of PH that a command changes is changed by one of the commands named. -/
def Obligations.OnlyItsWritersChangeState : Prop :=
  ∀ (i : Instr) (s t : State), exec i s = .next t →
    (t.tb ≠ s.tb → i = .reset ∨ i = .secondTick ∨ i = .tbAdvance ∨ (∃ b, i = .gpsFeed b) ∨
      (∃ week off tow, i = .tbSetDate week off tow)) ∧
    (t.gd ≠ s.gd → i = .reset ∨ ∃ b, i = .gpsFeed b) ∧
    (t.hm ≠ s.hm → i = .reset ∨ i = .secondTick ∨ i = .hmUpdate ∨ i = .hmResetGpsWdt ∨ i = .hmResetFllWdt ∨
      (∃ c, i = .hmSetOsc c ∨ i = .hmSetGps c ∨ i = .hmSetPll c ∨ i = .hmSetFll c ∨ i = .gpsFeed c) ∨
      (∃ p v, i = .cdStep p v)) ∧
    (t.cd ≠ s.cd → i = .reset ∨ i = .secondTick ∨ i = .hmUpdate ∨ i = .cdEnterHoldover ∨
      (∃ c, i = .hmSetOsc c ∨ i = .hmSetGps c ∨ i = .hmSetPll c ∨ i = .hmSetFll c ∨ i = .gpsFeed c ∨
        i = .ppsCapture c ∨ i = .cdLeaveHoldover c) ∨
      (∃ p v, i = .cdStep p v) ∨ (∃ r v, i = .cfgWrite r v)) ∧
    (t.sys ≠ s.sys → i = .reset ∨ i = .secondTick ∨ ∃ k, i = .ppsCapture k) ∧
    (t.cfg ≠ s.cfg → i = .reset ∨ ∃ r v, i = .cfgWrite r v) ∧
    (∀ a, Cells.read t.pb a ≠ Cells.read s.pb a → i = .reset ∨ ∃ b, i = .gpsFeed b) ∧
    (∀ j, Cells.read t.ph j ≠ Cells.read s.ph j → i = .reset ∨ i = .secondTick ∨ ∃ p v, i = .cdStep p v) ∧
    s.KeepsHost t

/-- GPS_FEED writes at most one byte of PB, the fed byte at the address GD.idx held (R44, R89), and no entry of PH; a
discipline step writes at most one entry of PH, at the index CD.hist_head held (R42), and no byte of PB. -/
def Obligations.StoresAreTouchedOnce : Prop :=
  ∀ s t : State, Memory.wf s.pb = true → Cells.wf s.ph = true →
    (∀ b : Byte, exec (.gpsFeed b.toNat) s = .next t →
      (∀ a, a ≠ s.gd.idx.toNat → Cells.read t.pb a = Cells.read s.pb a) ∧
      (Cells.read t.pb s.gd.idx.toNat = Cells.read s.pb s.gd.idx.toNat ∨ Cells.read t.pb s.gd.idx.toNat = b) ∧
      (∀ j, Cells.read t.ph j = Cells.read s.ph j)) ∧
    (∀ i : Instr, (i = .secondTick ∨ ∃ p v, i = .cdStep p v) → exec i s = .next t →
      (∀ j, j ≠ s.cd.histHead.toNat → Cells.read t.ph j = Cells.read s.ph j) ∧
      (∀ a, Cells.read t.pb a = Cells.read s.pb a))

/-- NOP and the read-out commands complete, have no side effect and no event, and are idempotent: run again at once,
each gives the same state (R44, R162). NOP answers OK, r0 = 0, r1 = 0 (R162). -/
def Obligations.ReadersHaveNoSideEffect : Prop :=
  ∀ (s : State) (i : Instr),
    (i = .nop ∨ i = .hmGetStatus ∨ i = .hmShouldRun ∨ i = .tbToUnix ∨ i = .tbGetDate ∨
      (∃ r, i = .readReg r ∨ i = .readPb r ∨ i = .tbTickToNs r) ∨ (∃ k f, i = .tbToNtp k f)) →
    ∃ t, exec i s = .next t ∧ (i = .nop → t.resp = ⟨.ok, 0, 0⟩) ∧ s.KeepsBlock t ∧ s.KeepsHost t ∧ t.events = [] ∧
      exec i t = .next t

/-! ## TimeBase -/

/-- R82 with R77: TB_SET_DATE stores week and tow + off with one borrow or one carry of a week, the week wrapping at
both ends, sets TB.date_set, and changes nothing else; a tow of WEEK_SECONDS or more is rejected. The rules write
WEEK_SECONDS as 604800, its value in R9; that they mean the parameter is log entry 14's. -/
def Obligations.SetDateBorrowsAndCarries : Prop :=
  (∀ w : CmdWord, (opField w).toNat = 0x20 → decode w = .ok
    (.tbSetDate ((fieldA w).toNat % 2 ^ 16) ((fieldA w).toInt / 2 ^ 16) (fieldB w).toNat)) ∧
  (∀ (s : State) (week tow : Nat) (off : Int), s.build.weekSeconds ≤ tow →
    ∃ t, exec (.tbSetDate week off tow) s = .next t ∧ t.resp = ⟨.errRange, 0, 0⟩ ∧ t.events = [] ∧
      s.KeepsBlock t ∧ s.KeepsHost t) ∧
  (∀ (s : State) (week tow wk : Nat) (off : Int),
    wk = s.build.weekSeconds → 2 ^ 15 ≤ wk → wk ≤ 2 ^ 32 →
    week < 2 ^ 16 → -2 ^ 15 ≤ off → off < 2 ^ 15 → tow < wk →
    ∃ t, exec (.tbSetDate week off tow) s = .next t ∧ t.resp = ⟨.ok, 0, 0⟩ ∧ t.events = [] ∧
      t.tb.dateSet = true ∧
      ((tow : Int) + off < 0 →
        (t.tb.tow.toNat : Int) = tow + off + wk ∧ t.tb.week.toNat = if week = 0 then 65535 else week - 1) ∧
      (0 ≤ (tow : Int) + off → (tow : Int) + off < wk →
        (t.tb.tow.toNat : Int) = tow + off ∧ t.tb.week.toNat = week) ∧
      ((wk : Int) ≤ (tow : Int) + off →
        (t.tb.tow.toNat : Int) = tow + off - wk ∧ t.tb.week.toNat = if week = 65535 then 0 else week + 1) ∧
      t.gd = s.gd ∧ t.hm = s.hm ∧ t.cd = s.cd ∧ t.sys = s.sys ∧ t.cfg = s.cfg ∧ s.KeepsStores t ∧ s.KeepsHost t)

/-- R84 with R78: TB_ADVANCE counts one second, rolls tow over at WEEK_SECONDS (604800 in R9 and R78; log entry 14)
into the week, and changes nothing else. -/
def Obligations.AdvanceCountsOneSecond : Prop :=
  (∀ w : CmdWord, (opField w).toNat = 0x22 → decode w = .ok .tbAdvance) ∧
  (∀ s : State, s.tb.tow.toNat < s.build.weekSeconds → s.build.weekSeconds ≤ 2 ^ 32 →
    ∃ t, exec .tbAdvance s = .next t ∧ t.resp = ⟨.ok, 0, 0⟩ ∧ t.events = [] ∧
      (s.tb.tow.toNat + 1 < s.build.weekSeconds → t.tb.tow.toNat = s.tb.tow.toNat + 1 ∧ t.tb.week = s.tb.week) ∧
      (s.tb.tow.toNat + 1 = s.build.weekSeconds → t.tb.tow.toNat = 0 ∧ t.tb.week.toNat = (s.tb.week.toNat + 1) % 2 ^ 16) ∧
      t.tb.dateSet = s.tb.dateSet ∧ t.gd = s.gd ∧ t.hm = s.hm ∧ t.cd = s.cd ∧ t.sys = s.sys ∧ t.cfg = s.cfg ∧
      s.KeepsStores t ∧ s.KeepsHost t)

/-- R83 with R76: TB_TICK_TO_NS returns the exact floor of the tick in ns, plus the fudge, folded once where it exceeds
half a second; the result lies within half a second; a tick of TICK_HZ or more is rejected. -/
def Obligations.TickToNanoseconds : Prop :=
  (∀ w : CmdWord, (opField w).toNat = 0x21 → decode w = .ok (.tbTickToNs (fieldA w).toNat)) ∧
  (∀ (s : State) (tick : Nat), s.build.tickHz ≤ tick →
    ∃ t, exec (.tbTickToNs tick) s = .next t ∧ t.resp = ⟨.errRange, 0, 0⟩ ∧ t.events = [] ∧
      s.KeepsBlock t ∧ s.KeepsHost t) ∧
  (∀ (s : State) (tick : Nat), tick < s.build.tickHz → s.cfg.phaseFudgeNs.toInt.natAbs ≤ 500000000 →
    ∃ (t : State) (ns0 v : Int), exec (.tbTickToNs tick) s = .next t ∧ t.resp.status = .ok ∧ t.resp.r1 = 0 ∧
      t.resp.r0.toInt = v ∧
      ns0 * s.build.tickHz ≤ tick * 10 ^ 9 ∧ tick * 10 ^ 9 < (ns0 + 1) * s.build.tickHz ∧
      (500000000 < ns0 + s.cfg.phaseFudgeNs.toInt → v = ns0 + s.cfg.phaseFudgeNs.toInt - 1000000000) ∧
      (ns0 + s.cfg.phaseFudgeNs.toInt ≤ 500000000 → v = ns0 + s.cfg.phaseFudgeNs.toInt) ∧
      -500000000 ≤ v ∧ v ≤ 500000000 ∧ t.events = [] ∧ s.KeepsBlock t ∧ s.KeepsHost t)

/-- R85 with R79: TB_TO_NTP returns the running date in seconds since 1900, the exact floor of the fraction, and the
fudge, as one 64-bit sum that carries, borrows and wraps; a tick of TICK_HZ or more is rejected. A week has
WEEK_SECONDS seconds (604800 in R9 and R79; log entry 14). -/
def Obligations.NtpTimestamp : Prop :=
  (∀ w : CmdWord, (opField w).toNat = 0x23 → decode w = .ok (.tbToNtp (fieldA w).toNat (fieldB w).toInt)) ∧
  (∀ (s : State) (tick : Nat) (fudge : Int), s.build.tickHz ≤ tick →
    ∃ t, exec (.tbToNtp tick fudge) s = .next t ∧ t.resp = ⟨.errRange, 0, 0⟩ ∧ t.events = [] ∧
      s.KeepsBlock t ∧ s.KeepsHost t) ∧
  (∀ (s : State) (tick : Nat) (fudge : Int), tick < s.build.tickHz → -2 ^ 31 ≤ fudge → fudge < 2 ^ 31 →
    ∃ (t : State) (frac : Int), exec (.tbToNtp tick fudge) s = .next t ∧ t.resp.status = .ok ∧ t.resp.r1 = 0 ∧
      0 ≤ frac ∧ frac < 2 ^ 32 ∧
      frac * s.build.tickHz ≤ tick * 2 ^ 32 ∧ tick * 2 ^ 32 < (frac + 1) * s.build.tickHz ∧
      (t.resp.r0.toNat : Int) =
        ((2524953600 + s.tb.week.toNat * s.build.weekSeconds + s.tb.tow.toNat) * 2 ^ 32 + frac + fudge) % 2 ^ 64 ∧
      t.events = [] ∧ s.KeepsBlock t ∧ s.KeepsHost t)

/-- R86 with R80, and R87: TB_TO_UNIX returns the date as Unix seconds, TB_GET_DATE returns tow and week. A week has
WEEK_SECONDS seconds (604800 in R9 and R80; log entry 14). -/
def Obligations.UnixTimeAndDate : Prop :=
  (∀ w : CmdWord, ((opField w).toNat = 0x24 → decode w = .ok .tbToUnix) ∧
    ((opField w).toNat = 0x25 → decode w = .ok .tbGetDate)) ∧
  ∀ s : State,
    (s.build.weekSeconds ≤ 2 ^ 32 → ∃ t, exec .tbToUnix s = .next t ∧ t.resp.status = .ok ∧ t.resp.r1 = 0 ∧
      t.resp.r0.toInt = 315964800 + s.tb.week.toNat * s.build.weekSeconds + s.tb.tow.toNat ∧
      t.events = [] ∧ s.KeepsBlock t ∧ s.KeepsHost t) ∧
    (∃ t, exec .tbGetDate s = .next t ∧ t.resp.status = .ok ∧ t.resp.r0.toNat = s.tb.tow.toNat ∧
      t.resp.r1.toNat = s.tb.week.toNat ∧ t.events = [] ∧ s.KeepsBlock t ∧ s.KeepsHost t)

/-- R81: one TB_ADVANCE adds 1 to the Unix time and 2^32 to the NTP timestamp, away from the wrap of the week; the
NTP timestamp wraps with its era. -/
def Obligations.AdvanceIsMonotone : Prop :=
  ∀ s t : State, s.tb.tow.toNat < s.build.weekSeconds → s.build.weekSeconds ≤ 2 ^ 32 →
    ¬ (s.tb.week.toNat = 65535 ∧ s.tb.tow.toNat + 1 = s.build.weekSeconds) → 1 ≤ s.build.tickHz → exec .tbAdvance s = .next t →
    ∃ s1 t1 s2 t2 : State,
      exec .tbToUnix s = .next s1 ∧ exec .tbToUnix t = .next t1 ∧ t1.resp.r0.toInt = s1.resp.r0.toInt + 1 ∧
      exec (.tbToNtp 0 0) s = .next s2 ∧ exec (.tbToNtp 0 0) t = .next t2 ∧
      t2.resp.r0.toNat = (s2.resp.r0.toNat + 2 ^ 32) % 2 ^ 64

/-! ## HealthMonitor -/

/-- R125: HM_UPDATE takes the first matching row of the table, and no row leaves the status as it is; the
sub-statuses, the watchdogs, the time base, the decoder, the pending sample, the configuration and the stores stay. -/
def Obligations.UpdateTakesTheFirstRow : Prop :=
  ∀ (s : State) (S : SystemStatus) (osc gps pll fll : SubStatus),
    S = s.hm.system → osc = s.hm.osc → gps = s.hm.gps → pll = s.hm.pll → fll = s.hm.fll →
    ∃ t, exec .hmUpdate s = .next t ∧ t.resp = ⟨.ok, 0, 0⟩ ∧
      (S = .ok → gps = .unlock → fll = .ok → t.hm.system = .holdover) ∧
      (S = .ok → gps = .unlock → fll ≠ .ok → t.hm.system = .unlock) ∧
      (S = .ok → gps ≠ .unlock → t.hm.system = .ok) ∧
      (S = .holdover → fll = .unlock → t.hm.system = .unlock) ∧
      ((S = .unlock ∨ (S = .holdover ∧ fll ≠ .unlock)) → (pll = .unlock ∨ osc = .unlock) →
        t.hm.system = .unlock) ∧
      ((S = .unlock ∨ (S = .holdover ∧ fll ≠ .unlock)) → pll = .ok → gps = .ok → osc = .ok →
        t.hm.system = .ok) ∧
      ((S = .unlock ∨ (S = .holdover ∧ fll ≠ .unlock)) → pll ≠ .unlock → osc ≠ .unlock →
        ¬ (pll = .ok ∧ gps = .ok ∧ osc = .ok) → t.hm.system = S) ∧
      (t.hm.system = S → t.hm = s.hm ∧ t.cd = s.cd ∧ t.events = []) ∧
      t.hm.osc = osc ∧ t.hm.gps = gps ∧ t.hm.pll = pll ∧ t.hm.fll = fll ∧
      t.hm.gpsWdt = s.hm.gpsWdt ∧ t.hm.fllWdt = s.hm.fllWdt ∧ t.hm.reftime = s.hm.reftime ∧
      t.tb = s.tb ∧ t.gd = s.gd ∧ t.sys = s.sys ∧ t.cfg = s.cfg ∧ s.KeepsStores t ∧ s.KeepsHost t

/-- R126: entering OK enables the PPS output and, from HOLDOVER, hands ClockDiscipline the time since holdover was
entered: 0 if the date moved backwards, 2^32 − 1 at most. -/
def Obligations.EnteringOk : Prop :=
  ∀ s : State, s.build.weekSeconds ≤ 2 ^ 32 → s.hm.system ≠ .ok → s.hm.pll = .ok → s.hm.gps = .ok → s.hm.osc = .ok →
    ¬ (s.hm.system = .holdover ∧ s.hm.fll = .unlock) →
    ∃ t, exec .hmUpdate s = .next t ∧ t.hm.system = .ok ∧ t.hm.ppsEnabled = true ∧ t.events = [.ppsEnable] ∧
      t.hm.holdoverStart = s.hm.holdoverStart ∧ t.hm.reftime = s.hm.reftime ∧
      (s.hm.system = .unlock → t.cd = s.cd) ∧
      (s.hm.system = .holdover → ∃ (d : Nat) (now u : State), exec .tbToUnix s = .next now ∧
        (d : Int) = min (max 0 (now.resp.r0.toInt - s.hm.holdoverStart.toInt)) (2 ^ 32 - 1) ∧
        exec (.cdLeaveHoldover d) s = .next u ∧ t.cd = u.cd) ∧
      t.tb = s.tb ∧ t.gd = s.gd ∧ t.sys = s.sys ∧ t.cfg = s.cfg ∧ s.KeepsStores t ∧ s.KeepsHost t

/-- R127: entering HOLDOVER, from OK with Gps lost and Fll good, records the Unix time, keeps the PPS output as it is,
and does to ClockDiscipline, with the same events, what CD_ENTER_HOLDOVER does. In the Unix time (R80) a week has
WEEK_SECONDS seconds, written as 604800 there (log entry 14). -/
def Obligations.EnteringHoldover : Prop :=
  ∀ s : State, s.build.weekSeconds ≤ 2 ^ 32 → s.hm.system = .ok → s.hm.gps = .unlock → s.hm.fll = .ok →
    ∃ t u, exec .hmUpdate s = .next t ∧ exec .cdEnterHoldover s = .next u ∧
      t.hm.system = .holdover ∧
      t.hm.holdoverStart.toInt = 315964800 + s.tb.week.toNat * s.build.weekSeconds + s.tb.tow.toNat ∧
      t.hm.ppsEnabled = s.hm.ppsEnabled ∧ t.hm.reftime = s.hm.reftime ∧ t.cd = u.cd ∧ t.events = u.events ∧
      t.oscIdx = u.oscIdx ∧
      t.tb = s.tb ∧ t.gd = s.gd ∧ t.sys = s.sys ∧ t.cfg = s.cfg ∧ s.KeepsStores t ∧ s.KeepsHost t

/-- R128: entering UNLOCK, from OK or HOLDOVER, disables the PPS output and touches nothing else. -/
def Obligations.EnteringUnlock : Prop :=
  ∀ s : State,
    (s.hm.system = .ok ∧ s.hm.gps = .unlock ∧ s.hm.fll ≠ .ok) ∨
      (s.hm.system = .holdover ∧ (s.hm.fll = .unlock ∨ s.hm.pll = .unlock ∨ s.hm.osc = .unlock)) →
    ∃ t, exec .hmUpdate s = .next t ∧ t.events = [.ppsDisable] ∧
      t.hm = { s.hm with system := .unlock, ppsEnabled := false } ∧
      t.cd = s.cd ∧ t.tb = s.tb ∧ t.gd = s.gd ∧ t.sys = s.sys ∧ t.cfg = s.cfg ∧ s.KeepsStores t ∧ s.KeepsHost t

/-- R123 and R132 to R135: each setter, with a legal code, writes its sub-status, refreshes its watchdog (Gps always,
Fll for OK only) and then does what HM_UPDATE does, which completes. -/
def Obligations.SettersUpdate : Prop :=
  ∀ (s : State) (c : Nat) (x : SubStatus), x = (if c = 0 then .unlock else if c = 1 then .ok else .minorAlarm) →
    (c ≤ 1 → ∃ t, exec (.hmSetOsc c) s = .next t ∧
      exec .hmUpdate { s with hm := { s.hm with osc := x } } = .next t) ∧
    (c ≤ 2 → ∃ t, exec (.hmSetGps c) s = .next t ∧
      exec .hmUpdate { s with hm := { s.hm with gps := x, gpsWdt := 0 } } = .next t) ∧
    (c ≤ 1 → ∃ t, exec (.hmSetPll c) s = .next t ∧
      exec .hmUpdate { s with hm := { s.hm with pll := x } } = .next t) ∧
    (c = 0 → ∃ t, exec (.hmSetFll c) s = .next t ∧
      exec .hmUpdate { s with hm := { s.hm with fll := x } } = .next t) ∧
    (c = 1 → ∃ t, exec (.hmSetFll c) s = .next t ∧
      exec .hmUpdate { s with hm := { s.hm with fll := x, fllWdt := 0 } } = .next t)

/-- R136 and R137 with R124: a watchdog refresh clears its counter and nothing else; no update runs. -/
def Obligations.WatchdogRefreshes : Prop :=
  (∀ w : CmdWord, ((opField w).toNat = 0x34 → decode w = .ok .hmResetGpsWdt) ∧
    ((opField w).toNat = 0x35 → decode w = .ok .hmResetFllWdt)) ∧
  ∀ s : State,
    (∃ t, exec .hmResetGpsWdt s = .next t ∧ t.resp = ⟨.ok, 0, 0⟩ ∧ t.events = [] ∧
      t.hm = { s.hm with gpsWdt := 0 } ∧
      t.tb = s.tb ∧ t.gd = s.gd ∧ t.cd = s.cd ∧ t.sys = s.sys ∧ t.cfg = s.cfg ∧ s.KeepsStores t ∧ s.KeepsHost t) ∧
    (∃ t, exec .hmResetFllWdt s = .next t ∧ t.resp = ⟨.ok, 0, 0⟩ ∧ t.events = [] ∧
      t.hm = { s.hm with fllWdt := 0 } ∧
      t.tb = s.tb ∧ t.gd = s.gd ∧ t.cd = s.cd ∧ t.sys = s.sys ∧ t.cfg = s.cfg ∧ s.KeepsStores t ∧ s.KeepsHost t)

/-- R139 with R130, and R140 with R75: HM_SHOULD_RUN returns 1 in OK, 0 in HOLDOVER, and in UNLOCK 1 only with Gps and
Osc good; HM_GET_STATUS returns the codes in the fields of the packed word, every other bit 0. -/
def Obligations.StatusReadOut : Prop :=
  (∀ w : CmdWord, ((opField w).toNat = 0x37 → decode w = .ok .hmShouldRun) ∧
    ((opField w).toNat = 0x38 → decode w = .ok .hmGetStatus)) ∧
  ∀ s : State,
    (∃ t, exec .hmShouldRun s = .next t ∧ t.resp.status = .ok ∧ t.resp.r1 = 0 ∧
      (t.resp.r0 = 1 ↔ s.hm.system = .ok ∨ (s.hm.system = .unlock ∧ s.hm.gps = .ok ∧ s.hm.osc = .ok)) ∧
      (t.resp.r0 = 0 ∨ t.resp.r0 = 1) ∧ t.events = [] ∧ s.KeepsBlock t ∧ s.KeepsHost t) ∧
    (∃ t, exec .hmGetStatus s = .next t ∧ t.resp.status = .ok ∧ t.resp.r1 = 0 ∧
      t.resp.r0.extractLsb' 0 8 = BitVec.ofNat 8 s.hm.system.code ∧
      t.resp.r0.extractLsb' 8 8 = BitVec.ofNat 8 s.hm.osc.code ∧
      t.resp.r0.extractLsb' 16 8 = BitVec.ofNat 8 s.hm.gps.code ∧
      t.resp.r0.extractLsb' 24 8 = BitVec.ofNat 8 s.hm.pll.code ∧
      t.resp.r0.extractLsb' 32 8 = BitVec.ofNat 8 s.hm.fll.code ∧
      t.resp.r0.getLsbD 40 = s.hm.ppsEnabled ∧ t.resp.r0.extractLsb' 41 23 = 0 ∧
      t.events = [] ∧ s.KeepsBlock t ∧ s.KeepsHost t)

/-- R131 (d): whatever the command, the system enters HOLDOVER only from OK, with Gps lost and Fll good. -/
def Obligations.HoldoverOnlyFromOk : Prop :=
  ∀ (i : Instr) (s t : State), exec i s = .next t → t.hm.system = .holdover → s.hm.system ≠ .holdover →
    s.hm.system = .ok ∧ t.hm.gps = .unlock ∧ t.hm.fll = .ok

/-- R29: whatever the command, HM.pps_enabled afterwards says which of PPS_ENABLE and PPS_DISABLE was emitted last, and
is as before where neither was. -/
def Obligations.PpsRegisterIsLastPpsEvent : Prop :=
  ∀ (i : Instr) (s t : State), exec i s = .next t →
    t.hm.ppsEnabled = t.events.foldl
      (fun p e => match e with | .ppsEnable => true | .ppsDisable => false | _ => p) s.hm.ppsEnabled

/-! ## The second tick -/

/-- R164 with R129, where no capture is pending: SECOND_TICK is the advance of R78, both watchdogs one higher
(saturating) and forcing their statuses at their limits, then one HM_UPDATE; no step runs. -/
def Obligations.TickAgesAndUpdates : Prop :=
  ∀ s : State, s.sys.pendingValid = false →
    ∃ (t u : State) (g f : Word), exec .secondTick s = .next t ∧ exec .tbAdvance s = .next u ∧
      g.toNat = min (s.hm.gpsWdt.toNat + 1) (2 ^ 32 - 1) ∧ f.toNat = min (s.hm.fllWdt.toNat + 1) (2 ^ 32 - 1) ∧
      exec .hmUpdate { u with hm := { u.hm with
        gpsWdt := g, gps := if s.build.gpsWdtLimit ≤ g.toNat then .unlock else s.hm.gps,
        fllWdt := f, fll := if s.build.fllWdtLimit ≤ f.toNat then .unlock else s.hm.fll } } = .next t

/-- R165: a pending sample that the gate refuses (discipline disabled, or should_run_discipline false after the aging)
counts once in CD.skipped and is used up; no step runs. `v` is the state that the same tick gives without a capture. -/
def Obligations.TickGateRefuses : Prop :=
  ∀ s v : State, s.sys.pendingValid = true →
    exec .secondTick { s with sys := { s.sys with pendingValid := false } } = .next v →
    ¬ (s.cfg.disciplineEnable = true ∧
      (v.hm.system = .ok ∨ (v.hm.system = .unlock ∧ v.hm.gps = .ok ∧ v.hm.osc = .ok))) →
    ∃ t, exec .secondTick s = .next t ∧
      t = { v with cd := { v.cd with skipped := BitVec.ofNat 32 (v.cd.skipped.toNat + 1) } }

/-- R165: where the gate is open, SECOND_TICK runs the step of CD_STEP on the pending sample with GD.fix_valid, in the
state `v` that the same tick gives without a capture, and uses the sample up; the step's events follow those of the
aging. -/
def Obligations.TickRunsTheStep : Prop :=
  ∀ s v w : State, s.sys.pendingValid = true →
    exec .secondTick { s with sys := { s.sys with pendingValid := false } } = .next v →
    s.cfg.disciplineEnable = true →
    (v.hm.system = .ok ∨ (v.hm.system = .unlock ∧ v.hm.gps = .ok ∧ v.hm.osc = .ok)) →
    exec (.cdStep s.sys.pendingPhase.toInt s.gd.fixValid) v = .next w →
    exec .secondTick s = .next { w with events := v.events ++ w.events }

/-- R141: PPS_CAPTURE stores the folded phase of the tick as the pending sample and returns it; a capture that was
still pending counts as skipped; a tick of TICK_HZ or more is rejected; no step runs; a later CFG_WRITE does not change
the pending sample. -/
def Obligations.CaptureLatchesPhase : Prop :=
  (∀ w : CmdWord, (opField w).toNat = 0x11 → decode w = .ok (.ppsCapture (fieldA w).toNat)) ∧
  (∀ (s : State) (tick : Nat), s.build.tickHz ≤ tick →
    ∃ t, exec (.ppsCapture tick) s = .next t ∧ t.resp = ⟨.errRange, 0, 0⟩ ∧ t.events = [] ∧
      s.KeepsBlock t ∧ s.KeepsHost t) ∧
  (∀ (s t : State) (reg value : Nat), exec (.cfgWrite reg value) s = .next t → t.sys = s.sys) ∧
  (∀ (s : State) (tick : Nat), tick < s.build.tickHz → s.cfg.phaseFudgeNs.toInt.natAbs ≤ 500000000 →
    ∃ t u : State, exec (.ppsCapture tick) s = .next t ∧ exec (.tbTickToNs tick) s = .next u ∧
      t.resp = ⟨.ok, u.resp.r0, 0⟩ ∧ t.events = [] ∧
      t.sys.pendingValid = true ∧ t.sys.pendingPhase.toInt = u.resp.r0.toInt ∧
      t.cd = { s.cd with skipped :=
        if s.sys.pendingValid then BitVec.ofNat 32 (s.cd.skipped.toNat + 1) else s.cd.skipped } ∧
      t.tb = s.tb ∧ t.gd = s.gd ∧ t.hm = s.hm ∧ t.cfg = s.cfg ∧ s.KeepsStores t ∧ s.KeepsHost t)

/-! ## The discipline step -/

/-- R143: a step with gps_valid = 0 adds 1 to CD.skipped, returns 0, and changes nothing else; one with gps_valid = 1
runs, whatever the health state, and is not counted as skipped. -/
def Obligations.GatedStepOnlyCounts : Prop :=
  ∀ (s : State) (p : Int),
    (∃ t, exec (.cdStep p false) s = .next t ∧ t.resp = ⟨.ok, 0, 0⟩ ∧ t.events = [] ∧
      t.cd = { s.cd with skipped := BitVec.ofNat 32 (s.cd.skipped.toNat + 1) } ∧
      t.tb = s.tb ∧ t.gd = s.gd ∧ t.hm = s.hm ∧ t.sys = s.sys ∧ t.cfg = s.cfg ∧ s.KeepsStores t ∧ s.KeepsHost t) ∧
    (∀ t, exec (.cdStep p true) s = .next t → t.resp = ⟨.ok, 1, 0⟩ ∧ t.cd.skipped = s.cd.skipped)

/-- R161 (b), from R144 and R145: a jump that the jump counter still absorbs gives, in everything but the counter and
CD.jump_subs, the state that a repetition of the previous sample gives. -/
def Obligations.SpikeIsAbsorbed : Prop :=
  ∀ (s u : State) (p : Int),
    s.cd.prevValid = true → 1 ≤ s.build.jumpThresholdNs →
    s.build.jumpThresholdNs ≤ (p - s.cd.prevPhase.toInt).natAbs →
    s.cd.jumpCounter.toNat < s.build.jumpCap → s.cd.prevPhase.toInt.natAbs ≤ s.build.resyncPhaseNs →
    (s.hm.system = .ok → s.hm.gps ≠ .unlock) →
    exec (.cdStep s.cd.prevPhase.toInt true) s = .next u →
    exec (.cdStep p true) s = .next { u with cd := { u.cd with
      jumpCounter := BitVec.ofNat 8 (s.cd.jumpCounter.toNat + 1),
      jumpSubs := BitVec.ofNat 32 (s.cd.jumpSubs.toNat + 1) } }

/-- R144: which sample a step that does not resync accepts, and what becomes of the jump counter and CD.jump_subs: a
sample that is no jump clears the counter, a jump is substituted while the counter is below JUMP_CAP, and let through
once it is at it. -/
def Obligations.JumpFilterAccepts : Prop :=
  ∀ (s : State) (p q : Int) (counter subs : Nat),
    s.build.legal = true → s.build.fits = true → s.Inv → -2 ^ 31 ≤ p → p < 2 ^ 31 →
    ((s.cd.prevValid = false ∨ (p - s.cd.prevPhase.toInt).natAbs < s.build.jumpThresholdNs) ∧
        q = p ∧ counter = 0 ∧ subs = s.cd.jumpSubs.toNat) ∨
      (s.cd.prevValid = true ∧ s.build.jumpThresholdNs ≤ (p - s.cd.prevPhase.toInt).natAbs ∧
        s.cd.jumpCounter.toNat < s.build.jumpCap ∧ q = s.cd.prevPhase.toInt ∧
        counter = s.cd.jumpCounter.toNat + 1 ∧ subs = (s.cd.jumpSubs.toNat + 1) % 2 ^ 32) ∨
      (s.cd.prevValid = true ∧ s.build.jumpThresholdNs ≤ (p - s.cd.prevPhase.toInt).natAbs ∧
        s.cd.jumpCounter.toNat = s.build.jumpCap ∧ q = p ∧ counter = s.build.jumpCap ∧
        subs = s.cd.jumpSubs.toNat) →
    q.natAbs ≤ s.build.resyncPhaseNs →
    (s.cd.prevValid = true → (q - s.cd.prevPhase.toInt).natAbs ≤ s.build.resyncJumpNs) →
    ∃ t, exec (.cdStep p true) s = .next t ∧ t.resp = ⟨.ok, 1, 0⟩ ∧
      t.cd.prevPhase.toInt = q ∧ t.cd.prevValid = true ∧ t.cd.jumpCounter.toNat = counter ∧
      t.cd.jumpSubs.toNat = subs ∧ t.cd.resyncCount = s.cd.resyncCount ∧ t.cd.skipped = s.cd.skipped ∧
      t.tb = s.tb ∧ t.gd = s.gd ∧ t.sys = s.sys ∧ t.cfg = s.cfg ∧
      (∀ a, Cells.read t.pb a = Cells.read s.pb a) ∧
      (∀ j, j ≠ s.cd.histHead.toNat → Cells.read t.ph j = Cells.read s.ph j) ∧ s.KeepsHost t

/-- R145 and R146: an accepted sample beyond RESYNC_PHASE_NS, or a jump let through beyond RESYNC_JUMP_NS, emits
FORCE_RESYNC and no rate command, resets the discipline but for the learned rate and the diagnostic counters, and
reports Pll and Fll as UNLOCK, which ends a holdover. -/
def Obligations.ResyncResetsTheDiscipline : Prop :=
  ∀ (s : State) (p : Int), s.Inv → -2 ^ 31 ≤ p → p < 2 ^ 31 →
    (s.cd.prevValid = false ∨ (p - s.cd.prevPhase.toInt).natAbs < s.build.jumpThresholdNs ∨
      s.cd.jumpCounter.toNat = s.build.jumpCap) →
    (s.build.resyncPhaseNs < p.natAbs ∨
      (s.cd.prevValid = true ∧ s.build.resyncJumpNs < (p - s.cd.prevPhase.toInt).natAbs)) →
    ∃ t, exec (.cdStep p true) s = .next t ∧ t.resp = ⟨.ok, 1, 0⟩ ∧
      (s.hm.system ≠ .holdover → t.events = [.forceResync] ∧ t.hm = { s.hm with pll := .unlock, fll := .unlock }) ∧
      (s.hm.system = .holdover → t.events = [.forceResync, .ppsDisable] ∧
        t.hm = { s.hm with pll := .unlock, fll := .unlock, system := .unlock, ppsEnabled := false }) ∧
      t.cd = {
        prevPhase := 0, prevValid := false, jumpCounter := 0, filtQ := 0, filtValid := false, filtered := 0,
        pllAcc := 0, pllFactor := s.cfg.pllFactorMin, pllRamp := 0,
        fllRate := s.cd.fllRate, fllAcc := 0, fllFactor := s.cfg.fllFactorMin, fllRamp := 0, fllUpdates := 0,
        oscLast := 0, realizedLast := 0, secondsSinceReset := 0, histHead := 0, histCount := 0, ditherLast := 0,
        resyncCount := BitVec.ofNat 32 (s.cd.resyncCount.toNat + 1),
        jumpSubs := s.cd.jumpSubs, skipped := s.cd.skipped } ∧
      t.tb = s.tb ∧ t.gd = s.gd ∧ t.sys = s.sys ∧ t.cfg = s.cfg ∧ s.KeepsStores t ∧ s.KeepsHost t

/-- R147, R148, R151, R152 and R154, for an accepted sample `a` (the sample itself, a jump let through, or the previous
sample in place of a jump) before the settling period has passed (R142): the filter, the slew, the rate split against
the driver's reply (free, or the one given), the feedback and the bookkeeping, each written exactly. -/
def Obligations.StepBeforeSettling : Prop :=
  ∀ (s : State) (p a dv q f acc slew : Int),
    s.build.legal = true → s.build.fits = true → s.Inv → s.Bounded → s.Accepts p a →
    s.cd.secondsSinceReset.toNat < s.build.fllSettleS →
    dv = clamp s.cd.pllFactor.toNat s.build.filtDivMin s.build.filtDivMax →
    (s.cd.filtValid = false → q = a * 2 ^ s.build.filtFracBits) →
    (s.cd.filtValid = true →
      q = s.cd.filtQ.toInt + tdiv (a * 2 ^ s.build.filtFracBits - s.cd.filtQ.toInt) dv) →
    f = tdiv q (2 ^ s.build.filtFracBits) → acc = s.cd.pllAcc.toInt - 1000 * f →
    slew = tdiv acc s.cd.pllFactor.toNat →
    ∃ (t : State) (req applied tu realized : Int) (es : List Event),
      exec (.cdStep p true) s = .next t ∧ t.resp = ⟨.ok, 1, 0⟩ ∧
      req = clamp
        (clamp (rndHalfUp (slew + s.cd.fllRate.toInt) s.build.oscGranPpt)
          (s.cd.oscLast.toInt - s.build.oscStepMaxPpt) (s.cd.oscLast.toInt + s.build.oscStepMaxPpt))
        (-2 ^ 31) (2 ^ 31 - 1) ∧
      (∀ r rs, s.env.oscReplies = r :: rs → applied = r.toInt) ∧
      tu = clamp (fdiv (rndHalfUp (slew + s.cd.fllRate.toInt - applied) s.build.timerGranPpt) s.build.timerGranPpt)
        (-(s.build.timerTrimMax : Int)) s.build.timerTrimMax ∧
      realized = applied + tu * s.build.timerGranPpt ∧
      t.events = .oscRate req applied :: .timerPeriod (s.build.timerPeriodNominal - tu) :: es ∧
      (∀ e ∈ es, e = .ppsEnable ∨ e = .ppsDisable) ∧
      t.cd.filtQ.toInt = q ∧ t.cd.filtValid = true ∧ t.cd.filtered.toInt = f ∧
      t.cd.oscLast.toInt = applied ∧ t.cd.realizedLast.toInt = realized ∧
      t.cd.pllAcc.toInt = (acc - slew * s.cd.pllFactor.toNat) +
        clamp (slew - (realized - s.cd.fllRate.toInt)) (-(s.build.pllCarryMax : Int)) s.build.pllCarryMax *
          s.cd.pllFactor.toNat ∧
      t.cd.fllRate = s.cd.fllRate ∧ t.cd.fllAcc = s.cd.fllAcc ∧ t.cd.fllUpdates = s.cd.fllUpdates ∧
      t.cd.fllRamp = s.cd.fllRamp ∧ t.cd.ditherLast = 0 ∧
      t.cd.prevPhase.toInt = a ∧ t.cd.prevValid = true ∧
      t.cd.secondsSinceReset.toNat = min (s.cd.secondsSinceReset.toNat + 1) (2 ^ 32 - 1) ∧
      t.tb = s.tb ∧ t.gd = s.gd ∧ t.sys = s.sys ∧ t.cfg = s.cfg ∧
      (∀ k, Cells.read t.pb k = Cells.read s.pb k) ∧ s.KeepsHost t

/-- R147 to R152 and R154, for an accepted sample `a` (as in StepBeforeSettling) once the settling period has passed
(R142): the filter and the slew; the FLL's accumulator keeps the remainder, its rate moves by the quotient and is
clamped, and the dither term is the remainder's sign or 0 as the draw says (free, or the one given); all three enter the
rate commanded, which is split against the driver's reply (free, or the one given), and the feedback leaves the learned
rate and the dither out. -/
def Obligations.StepWithFll : Prop :=
  ∀ (s : State) (p a dv q f acc slew eps D delta r rate : Int),
    s.build.legal = true → s.build.fits = true → s.Inv → s.Bounded → s.Accepts p a →
    s.build.fllSettleS ≤ s.cd.secondsSinceReset.toNat →
    dv = clamp s.cd.pllFactor.toNat s.build.filtDivMin s.build.filtDivMax →
    (s.cd.filtValid = false → q = a * 2 ^ s.build.filtFracBits) →
    (s.cd.filtValid = true →
      q = s.cd.filtQ.toInt + tdiv (a * 2 ^ s.build.filtFracBits - s.cd.filtQ.toInt) dv) →
    f = tdiv q (2 ^ s.build.filtFracBits) → acc = s.cd.pllAcc.toInt - 1000 * f →
    slew = tdiv acc s.cd.pllFactor.toNat →
    eps = s.cd.realizedLast.toInt - s.cd.fllRate.toInt - 1000 * (a - s.cd.prevPhase.toInt) →
    D = s.cd.fllFactor.toNat * s.build.fllSmoothing → delta = tdiv (s.cd.fllAcc.toInt + eps) D →
    r = s.cd.fllAcc.toInt + eps - delta * D →
    rate = clamp (s.cd.fllRate.toInt + delta) (-(s.cfg.fllRateMax.toNat : Int)) s.cfg.fllRateMax.toNat →
    ∃ (t : State) (u : Nat) (dither req applied tu realized : Int) (es : List Event),
      exec (.cdStep p true) s = .next t ∧ t.resp = ⟨.ok, 1, 0⟩ ∧
      u < 2 ^ 32 ∧ (∀ x, s.env.ditherU = some x → u = x.toNat) ∧
      ((u : Int) % D < r.natAbs → dither = r.sign) ∧ (¬ (u : Int) % D < r.natAbs → dither = 0) ∧
      t.cd.fllAcc.toInt = r ∧ r.natAbs < D ∧
      t.cd.fllRate.toInt = rate ∧ rate.natAbs ≤ s.cfg.fllRateMax.toNat ∧
      t.cd.fllUpdates.toNat = min (s.cd.fllUpdates.toNat + 1) (2 ^ 32 - 1) ∧
      t.cd.ditherLast.toInt = dither ∧
      req = clamp
        (clamp (rndHalfUp (slew + rate + dither) s.build.oscGranPpt)
          (s.cd.oscLast.toInt - s.build.oscStepMaxPpt) (s.cd.oscLast.toInt + s.build.oscStepMaxPpt))
        (-2 ^ 31) (2 ^ 31 - 1) ∧
      (∀ x xs, s.env.oscReplies = x :: xs → applied = x.toInt) ∧
      tu = clamp (fdiv (rndHalfUp (slew + rate + dither - applied) s.build.timerGranPpt) s.build.timerGranPpt)
        (-(s.build.timerTrimMax : Int)) s.build.timerTrimMax ∧
      realized = applied + tu * s.build.timerGranPpt ∧
      t.events = .oscRate req applied :: .timerPeriod (s.build.timerPeriodNominal - tu) :: es ∧
      (∀ e ∈ es, e = .ppsEnable ∨ e = .ppsDisable) ∧
      t.cd.filtQ.toInt = q ∧ t.cd.filtValid = true ∧ t.cd.filtered.toInt = f ∧
      t.cd.oscLast.toInt = applied ∧ t.cd.realizedLast.toInt = realized ∧
      t.cd.pllAcc.toInt = (acc - slew * s.cd.pllFactor.toNat) +
        clamp (slew - (realized - rate - dither)) (-(s.build.pllCarryMax : Int)) s.build.pllCarryMax *
          s.cd.pllFactor.toNat ∧
      t.cd.prevPhase.toInt = a ∧ t.cd.prevValid = true ∧
      t.cd.secondsSinceReset.toNat = min (s.cd.secondsSinceReset.toNat + 1) (2 ^ 32 - 1) ∧
      t.tb = s.tb ∧ t.gd = s.gd ∧ t.sys = s.sys ∧ t.cfg = s.cfg ∧
      (∀ k, Cells.read t.pb k = Cells.read s.pb k) ∧ s.KeepsHost t

/-- R161 (f): after every step both accumulators are bounded in terms of the factors the step used, and the learned
rate by its maximum. The bounds hold in terms of the factors after the step too, unless the step left HOLDOVER for OK,
which lowers both factors last (R157; log entry 19). -/
def Obligations.StepKeepsAccumulatorBounds : Prop :=
  ∀ (s : State) (p : Int), s.build.legal = true → s.build.fits = true → s.Inv → s.Bounded →
    -2 ^ 31 ≤ p → p < 2 ^ 31 →
    s.cd.fllAcc.toInt.natAbs < s.cd.fllFactor.toNat * s.build.fllSmoothing →
    ∃ t, exec (.cdStep p true) s = .next t ∧
      t.cd.pllAcc.toInt.natAbs < (s.build.pllCarryMax + 1) * s.cd.pllFactor.toNat ∧
      t.cd.fllAcc.toInt.natAbs < s.cd.fllFactor.toNat * s.build.fllSmoothing ∧
      (¬ s.AnnealsInStep t →
        t.cd.pllAcc.toInt.natAbs < (s.build.pllCarryMax + 1) * t.cd.pllFactor.toNat ∧
        t.cd.fllAcc.toInt.natAbs < t.cd.fllFactor.toNat * s.build.fllSmoothing) ∧
      t.cd.fllRate.toInt.natAbs ≤ t.cfg.fllRateMax.toNat

/-- R153: in a step that accepted a sample, each factor becomes one higher, up to its maximum, when its ramp reaches its
interval; an unhealthy filtered phase restarts the PLL's ramp; the FLL's ramp runs only once the settling period has
passed. `pf` and `ff` are the factors after the ramps: they hold after the step, unless it left HOLDOVER for OK, which
then does to them what CD_LEAVE_HOLDOVER does for the time since HM.holdover_start (R126, R155, R157). That such a step
lowers the factors after the ramps is log entry 19's; in the Unix time (R80) a week has WEEK_SECONDS seconds, written as
604800 there (log entry 14). -/
def Obligations.RampsRaiseFactors : Prop :=
  ∀ (s t : State) (p : Int) (pr fr : Nat), s.build.legal = true → s.build.fits = true → s.Inv → s.Bounded →
    -2 ^ 31 ≤ p → p < 2 ^ 31 → exec (.cdStep p true) s = .next t → t.cd.prevValid = true →
    pr = min (s.cd.pllRamp.toNat + 1) (2 ^ 32 - 1) → fr = min (s.cd.fllRamp.toNat + 1) (2 ^ 32 - 1) →
    ∃ pf ff : Half,
      (t.cd.filtered.toInt.natAbs ≤ s.build.pllHealthyNs → pr < s.build.pllRampInterval →
        t.cd.pllRamp.toNat = pr ∧ pf = s.cd.pllFactor) ∧
      (t.cd.filtered.toInt.natAbs ≤ s.build.pllHealthyNs → s.build.pllRampInterval ≤ pr →
        t.cd.pllRamp = 0 ∧ pf.toNat = min (s.cd.pllFactor.toNat + 1) s.cfg.pllFactorMax.toNat) ∧
      (s.build.pllHealthyNs < t.cd.filtered.toInt.natAbs → t.cd.pllRamp = 0 ∧ pf = s.cd.pllFactor) ∧
      (s.cd.secondsSinceReset.toNat < s.build.fllSettleS →
        t.cd.fllRamp = s.cd.fllRamp ∧ ff = s.cd.fllFactor) ∧
      (s.build.fllSettleS ≤ s.cd.secondsSinceReset.toNat → fr < s.build.fllRampInterval →
        t.cd.fllRamp.toNat = fr ∧ ff = s.cd.fllFactor) ∧
      (s.build.fllSettleS ≤ s.cd.secondsSinceReset.toNat → s.build.fllRampInterval ≤ fr →
        t.cd.fllRamp = 0 ∧ ff.toNat = min (s.cd.fllFactor.toNat + 1) s.cfg.fllFactorMax.toNat) ∧
      (¬ s.AnnealsInStep t → t.cd.pllFactor = pf ∧ t.cd.fllFactor = ff) ∧
      (s.AnnealsInStep t → ∃ (d : Nat) (u : State),
        (d : Int) = min (max 0 (315964800 + s.tb.week.toNat * s.build.weekSeconds + s.tb.tow.toNat -
          s.hm.holdoverStart.toInt)) (2 ^ 32 - 1) ∧
        exec (.cdLeaveHoldover d) { s with cd := { s.cd with pllFactor := pf, fllFactor := ff } } = .next u ∧
        t.cd.pllFactor = u.cd.pllFactor ∧ t.cd.fllFactor = u.cd.fllFactor)

/-- R155: after a step that accepted a sample, Pll is OK exactly when the filtered phase is healthy and the startup has
passed, Fll exactly when an FLL update has been made; Pll OK latches the NTP time of the current second and Fll OK
clears the FLL watchdog. Both are set as HM_SET_PLL and then HM_SET_FLL set them (R123, R125), in the state `v` with the
reference time latched and the ramped factors: the system status, the PPS output, the factors and the events that follow
TIMER_PERIOD are what those two give. -/
def Obligations.LockEvaluationReports : Prop :=
  ∀ (s t : State) (p : Int), s.build.legal = true → s.build.fits = true → s.Inv → s.Bounded →
    -2 ^ 31 ≤ p → p < 2 ^ 31 → exec (.cdStep p true) s = .next t → t.cd.prevValid = true →
    (t.hm.pll = .ok ↔ t.cd.filtered.toInt.natAbs ≤ s.build.pllHealthyNs ∧
      s.build.pllStartupS ≤ t.cd.secondsSinceReset.toNat) ∧
    (t.hm.pll = .ok ∨ t.hm.pll = .unlock) ∧
    (t.hm.fll = .ok ↔ 1 ≤ t.cd.fllUpdates.toNat) ∧ (t.hm.fll = .ok ∨ t.hm.fll = .unlock) ∧
    (t.hm.pll = .ok → ∃ u, exec (.tbToNtp 0 0) s = .next u ∧ t.hm.reftime = u.resp.r0) ∧
    (t.hm.pll = .unlock → t.hm.reftime = s.hm.reftime) ∧
    (t.hm.fll = .ok → t.hm.fllWdt = 0) ∧ (t.hm.fll = .unlock → t.hm.fllWdt = s.hm.fllWdt) ∧
    t.hm.osc = s.hm.osc ∧ t.hm.gps = s.hm.gps ∧ t.hm.gpsWdt = s.hm.gpsWdt ∧
    ∃ (pf ff : Half) (v w u : State) (req applied period : Int),
      s.Ramped t pf ff ∧
      v = { s with
        hm := { s.hm with reftime := t.hm.reftime }, cd := { t.cd with pllFactor := pf, fllFactor := ff } } ∧
      exec (.hmSetPll t.hm.pll.code) v = .next w ∧ exec (.hmSetFll t.hm.fll.code) w = .next u ∧
      t.hm = u.hm ∧ t.cd = u.cd ∧
      t.events = .oscRate req applied :: .timerPeriod period :: (w.events ++ u.events)

/-- R42, R154 and R168: after a step that accepted a sample, history entry 0 reads as the step's filtered phase, and
every older entry reads as the one before it read. -/
def Obligations.HistoryIsPushed : Prop :=
  ∀ (s t : State) (p : Int), s.build.legal = true → s.Inv →
    exec (.cdStep p true) s = .next t → t.cd.prevValid = true →
    t.cd.histCount.toNat = min (s.cd.histCount.toNat + 1) s.build.phaseHistoryLen ∧
    (∃ u, exec (.readReg 0x0400) t = .next u ∧ u.resp.status = .ok ∧
      u.resp.r0.toInt = t.cd.filtered.toInt) ∧
    (∀ j, j + 1 < t.cd.histCount.toNat →
      ∃ u v, exec (.readReg (0x0400 + j + 1)) t = .next u ∧ exec (.readReg (0x0400 + j)) s = .next v ∧
        u.resp = v.resp ∧ u.resp.status = .ok)

/-- R151, R161 (f) and R182: whatever the command, it makes at most one rate request; the request fits the driver's
i32 and lies within OSC_STEP_MAX_PPT of CD.osc_last, and TIMER_PERIOD, within the trim range, follows it at once. -/
def Obligations.RateRequestsAreBounded : Prop :=
  ∀ (i : Instr) (s t : State), (s.hm.system = .ok → s.hm.gps ≠ .unlock) → exec i s = .next t →
    (∀ e ∈ t.events, e = .forceResync ∨ e = .ppsEnable ∨ e = .ppsDisable) ∨
    ∃ (before after : List Event) (req applied tu : Int),
      t.events = before ++ .oscRate req applied :: .timerPeriod (s.build.timerPeriodNominal - tu) :: after ∧
      (∀ e ∈ before ++ after, e = .ppsEnable ∨ e = .ppsDisable) ∧
      -2 ^ 31 ≤ req ∧ req < 2 ^ 31 ∧ (req - s.cd.oscLast.toInt).natAbs ≤ s.build.oscStepMaxPpt ∧
      -2 ^ 31 ≤ applied ∧ applied < 2 ^ 31 ∧ tu.natAbs ≤ s.build.timerTrimMax

/-! ## Holdover -/

/-- R159 with R156 and R146: CD_ENTER_HOLDOVER commands the learned rate alone, against the driver's reply (free, or
the one given), then resets the discipline but for the learned rate, both factors and the diagnostic counters. -/
def Obligations.EnterHoldoverCommand : Prop :=
  ∀ s : State,
    ∃ (t : State) (req applied tu : Int), exec .cdEnterHoldover s = .next t ∧ t.resp = ⟨.ok, 0, 0⟩ ∧
      req = clamp
        (clamp (rndHalfUp s.cd.fllRate.toInt s.build.oscGranPpt)
          (s.cd.oscLast.toInt - s.build.oscStepMaxPpt) (s.cd.oscLast.toInt + s.build.oscStepMaxPpt))
        (-2 ^ 31) (2 ^ 31 - 1) ∧
      (∀ r rs, s.env.oscReplies = r :: rs → applied = r.toInt) ∧ -2 ^ 31 ≤ applied ∧ applied < 2 ^ 31 ∧
      tu = clamp (fdiv (rndHalfUp (s.cd.fllRate.toInt - applied) s.build.timerGranPpt) s.build.timerGranPpt)
        (-(s.build.timerTrimMax : Int)) s.build.timerTrimMax ∧
      t.events = [.oscRate req applied, .timerPeriod (s.build.timerPeriodNominal - tu)] ∧
      t.cd = {
        prevPhase := 0, prevValid := false, jumpCounter := 0, filtQ := 0, filtValid := false, filtered := 0,
        pllAcc := 0, pllFactor := s.cd.pllFactor, pllRamp := 0,
        fllRate := s.cd.fllRate, fllAcc := 0, fllFactor := s.cd.fllFactor, fllRamp := 0, fllUpdates := 0,
        oscLast := 0, realizedLast := 0, secondsSinceReset := 0, histHead := 0, histCount := 0, ditherLast := 0,
        resyncCount := s.cd.resyncCount, jumpSubs := s.cd.jumpSubs, skipped := s.cd.skipped } ∧
      t.tb = s.tb ∧ t.gd = s.gd ∧ t.hm = s.hm ∧ t.sys = s.sys ∧ t.cfg = s.cfg ∧ s.KeepsStores t ∧ s.KeepsHost t

/-- R160 with R157: CD_LEAVE_HOLDOVER lowers each factor by the ceiling of its excess · min(d, HOLDOVER_ANNEAL_S) /
(2 · HOLDOVER_ANNEAL_S): never below the minimum, not at all for d = 0, by 1 at least for a longer holdover of a
factor above its minimum. After CD_ENTER_HOLDOVER at once, d = 0 gives the factors that held before (R161 (e)). -/
def Obligations.LeaveHoldoverAnneals : Prop :=
  ∀ (s : State) (d dd : Nat), 1 ≤ s.build.holdoverAnnealS →
    s.cfg.pllFactorMin.toNat ≤ s.cd.pllFactor.toNat → s.cfg.fllFactorMin.toNat ≤ s.cd.fllFactor.toNat →
    dd = min d s.build.holdoverAnnealS →
    (∃ (t : State) (cp cf : Nat), exec (.cdLeaveHoldover d) s = .next t ∧ t.resp = ⟨.ok, 0, 0⟩ ∧ t.events = [] ∧
      t.cd.pllFactor.toNat + cp = s.cd.pllFactor.toNat ∧ t.cd.fllFactor.toNat + cf = s.cd.fllFactor.toNat ∧
      (s.cd.pllFactor.toNat - s.cfg.pllFactorMin.toNat) * dd ≤ cp * (2 * s.build.holdoverAnnealS) ∧
      cp * (2 * s.build.holdoverAnnealS) <
        (s.cd.pllFactor.toNat - s.cfg.pllFactorMin.toNat) * dd + 2 * s.build.holdoverAnnealS ∧
      (s.cd.fllFactor.toNat - s.cfg.fllFactorMin.toNat) * dd ≤ cf * (2 * s.build.holdoverAnnealS) ∧
      cf * (2 * s.build.holdoverAnnealS) <
        (s.cd.fllFactor.toNat - s.cfg.fllFactorMin.toNat) * dd + 2 * s.build.holdoverAnnealS ∧
      s.cfg.pllFactorMin.toNat ≤ t.cd.pllFactor.toNat ∧ s.cfg.fllFactorMin.toNat ≤ t.cd.fllFactor.toNat ∧
      (1 ≤ d → s.cfg.pllFactorMin.toNat < s.cd.pllFactor.toNat → 1 ≤ cp) ∧
      (1 ≤ d → s.cfg.fllFactorMin.toNat < s.cd.fllFactor.toNat → 1 ≤ cf) ∧
      (d = 0 → cp = 0 ∧ cf = 0) ∧
      t.cd = { s.cd with pllFactor := t.cd.pllFactor, fllFactor := t.cd.fllFactor } ∧
      t.tb = s.tb ∧ t.gd = s.gd ∧ t.hm = s.hm ∧ t.sys = s.sys ∧ t.cfg = s.cfg ∧ s.KeepsStores t ∧ s.KeepsHost t) ∧
    (∀ u, exec .cdEnterHoldover s = .next u → ∃ v, exec (.cdLeaveHoldover 0) u = .next v ∧
      v.cd.pllFactor = s.cd.pllFactor ∧ v.cd.fllFactor = s.cd.fllFactor)

/-! ## Configuration, read-out, reset -/

/-- R166 and R167: CFG_WRITE to each configuration register stores the clamped value, returns the value now held,
clamps the value it bounds again, and changes nothing else; no value is rejected. -/
def Obligations.CfgWriteClamps : Prop :=
  ∀ (s : State) (value : Nat) (signed : Int),
    s.build.fits = true → s.Inv → value < 2 ^ 32 → signed = (if value < 2 ^ 31 then (value : Int) else value - 2 ^ 32) →
    (∃ t, exec (.cfgWrite 0x0500 value) s = .next t ∧
      t.resp.r0.toInt = clamp value 1 s.cfg.pllFactorMax.toNat ∧
      (t.cfg.pllFactorMin.toNat : Int) = t.resp.r0.toInt ∧
      (t.cd.pllFactor.toNat : Int) =
        clamp s.cd.pllFactor.toNat t.cfg.pllFactorMin.toNat s.cfg.pllFactorMax.toNat ∧
      t.cfg = { s.cfg with pllFactorMin := t.cfg.pllFactorMin } ∧ t.cd = { s.cd with pllFactor := t.cd.pllFactor } ∧
      t.resp.status = .ok ∧ t.events = [] ∧ t.tb = s.tb ∧ t.gd = s.gd ∧ t.hm = s.hm ∧ t.sys = s.sys ∧
      s.KeepsStores t ∧ s.KeepsHost t) ∧
    (∃ t, exec (.cfgWrite 0x0501 value) s = .next t ∧
      t.resp.r0.toInt = clamp value s.cfg.pllFactorMin.toNat s.build.factorLimit ∧
      (t.cfg.pllFactorMax.toNat : Int) = t.resp.r0.toInt ∧
      (t.cd.pllFactor.toNat : Int) =
        clamp s.cd.pllFactor.toNat s.cfg.pllFactorMin.toNat t.cfg.pllFactorMax.toNat ∧
      t.cfg = { s.cfg with pllFactorMax := t.cfg.pllFactorMax } ∧ t.cd = { s.cd with pllFactor := t.cd.pllFactor } ∧
      t.resp.status = .ok ∧ t.events = [] ∧ t.tb = s.tb ∧ t.gd = s.gd ∧ t.hm = s.hm ∧ t.sys = s.sys ∧
      s.KeepsStores t ∧ s.KeepsHost t) ∧
    (∃ t, exec (.cfgWrite 0x0502 value) s = .next t ∧
      t.resp.r0.toInt = clamp value 1 s.cfg.fllFactorMax.toNat ∧
      (t.cfg.fllFactorMin.toNat : Int) = t.resp.r0.toInt ∧
      (t.cd.fllFactor.toNat : Int) =
        clamp s.cd.fllFactor.toNat t.cfg.fllFactorMin.toNat s.cfg.fllFactorMax.toNat ∧
      t.cfg = { s.cfg with fllFactorMin := t.cfg.fllFactorMin } ∧ t.cd = { s.cd with fllFactor := t.cd.fllFactor } ∧
      t.resp.status = .ok ∧ t.events = [] ∧ t.tb = s.tb ∧ t.gd = s.gd ∧ t.hm = s.hm ∧ t.sys = s.sys ∧
      s.KeepsStores t ∧ s.KeepsHost t) ∧
    (∃ t, exec (.cfgWrite 0x0503 value) s = .next t ∧
      t.resp.r0.toInt = clamp value s.cfg.fllFactorMin.toNat s.build.factorLimit ∧
      (t.cfg.fllFactorMax.toNat : Int) = t.resp.r0.toInt ∧
      (t.cd.fllFactor.toNat : Int) =
        clamp s.cd.fllFactor.toNat s.cfg.fllFactorMin.toNat t.cfg.fllFactorMax.toNat ∧
      t.cfg = { s.cfg with fllFactorMax := t.cfg.fllFactorMax } ∧ t.cd = { s.cd with fllFactor := t.cd.fllFactor } ∧
      t.resp.status = .ok ∧ t.events = [] ∧ t.tb = s.tb ∧ t.gd = s.gd ∧ t.hm = s.hm ∧ t.sys = s.sys ∧
      s.KeepsStores t ∧ s.KeepsHost t) ∧
    (∃ t, exec (.cfgWrite 0x0504 value) s = .next t ∧
      t.resp.r0.toInt = clamp value 0 s.build.fllRateLimit ∧
      (t.cfg.fllRateMax.toNat : Int) = t.resp.r0.toInt ∧
      t.cd.fllRate.toInt = clamp s.cd.fllRate.toInt (-t.resp.r0.toInt) t.resp.r0.toInt ∧
      t.cfg = { s.cfg with fllRateMax := t.cfg.fllRateMax } ∧ t.cd = { s.cd with fllRate := t.cd.fllRate } ∧
      t.resp.status = .ok ∧ t.events = [] ∧ t.tb = s.tb ∧ t.gd = s.gd ∧ t.hm = s.hm ∧ t.sys = s.sys ∧
      s.KeepsStores t ∧ s.KeepsHost t) ∧
    (∃ t, exec (.cfgWrite 0x0505 value) s = .next t ∧
      t.resp.r0.toInt = clamp signed (-(s.cfg.fllRateMax.toNat : Int)) s.cfg.fllRateMax.toNat ∧
      t.cd.fllRate.toInt = t.resp.r0.toInt ∧ t.cfg = s.cfg ∧ t.cd = { s.cd with fllRate := t.cd.fllRate } ∧
      t.resp.status = .ok ∧ t.events = [] ∧ t.tb = s.tb ∧ t.gd = s.gd ∧ t.hm = s.hm ∧ t.sys = s.sys ∧
      s.KeepsStores t ∧ s.KeepsHost t) ∧
    (∃ t, exec (.cfgWrite 0x0506 value) s = .next t ∧
      t.resp.r0 = (if value = 0 then 0 else 1) ∧
      t.cfg = { s.cfg with disciplineEnable := decide (value ≠ 0) } ∧ t.cd = s.cd ∧
      t.resp.status = .ok ∧ t.events = [] ∧ t.tb = s.tb ∧ t.gd = s.gd ∧ t.hm = s.hm ∧ t.sys = s.sys ∧
      s.KeepsStores t ∧ s.KeepsHost t) ∧
    (∃ t, exec (.cfgWrite 0x0507 value) s = .next t ∧
      t.resp.r0.toInt = clamp signed (-(s.build.phaseFudgeLimit : Int)) s.build.phaseFudgeLimit ∧
      t.cfg.phaseFudgeNs.toInt = t.resp.r0.toInt ∧
      t.cfg = { s.cfg with phaseFudgeNs := t.cfg.phaseFudgeNs } ∧ t.cd = s.cd ∧
      t.resp.status = .ok ∧ t.events = [] ∧ t.tb = s.tb ∧ t.gd = s.gd ∧ t.hm = s.hm ∧ t.sys = s.sys ∧
      s.KeepsStores t ∧ s.KeepsHost t)

/-- R21, R168 and R169: READ_REG of every register number of spec/10_state.md returns that register's value as a 64-bit
pattern (a signed one sign-extended, a boolean as 0 or 1, an enumeration as its code), and READ_PB returns the byte at
its address; neither has an effect. -/
def Obligations.ReadOutReturnsTheState : Prop :=
  ∀ s : State,
    (∀ p ∈ ([(0x0000, (s.tb.week.toNat : Int)), (0x0001, s.tb.tow.toNat), (0x0002, s.tb.dateSet.toNat)] ++
        [(0x0100, (s.gd.state.toNat : Int)), (0x0101, s.gd.len.toNat), (0x0102, s.gd.idx.toNat),
          (0x0103, s.gd.cls.toNat), (0x0104, s.gd.id.toNat), (0x0105, s.gd.rx.toNat),
          (0x0106, s.gd.drain.toNat), (0x0107, s.gd.ovf.toNat)] ++
        [(0x0110, (s.gd.garbage.toNat : Int)), (0x0111, s.gd.tooBig.toNat), (0x0112, s.gd.cksErr.toNat),
          (0x0113, s.gd.framingErr.toNat), (0x0114, s.gd.unknown.toNat), (0x0115, s.gd.good.toNat)] ++
        [(0x0120, (s.gd.fixValid.toNat : Int)), (0x0121, s.gd.alarm.code), (0x0122, s.gd.block.toNat),
          (0x0123, s.gd.utcKnown.toNat), (0x0124, s.gd.utcOffset.toInt)] ++
        [(0x0200, (s.hm.system.code : Int)), (0x0201, s.hm.osc.code), (0x0202, s.hm.gps.code),
          (0x0203, s.hm.pll.code), (0x0204, s.hm.fll.code), (0x0205, s.hm.gpsWdt.toNat),
          (0x0206, s.hm.fllWdt.toNat), (0x0207, s.hm.ppsEnabled.toNat), (0x0208, s.hm.reftime.toNat),
          (0x0209, s.hm.holdoverStart.toInt)] ++
        [(0x0300, s.cd.prevPhase.toInt), (0x0301, (s.cd.prevValid.toNat : Int)),
          (0x0302, s.cd.jumpCounter.toNat), (0x0303, s.cd.filtQ.toInt), (0x0304, s.cd.filtValid.toNat),
          (0x0305, s.cd.filtered.toInt), (0x0306, s.cd.pllAcc.toInt), (0x0307, s.cd.pllFactor.toNat),
          (0x0308, s.cd.pllRamp.toNat), (0x0309, s.cd.fllRate.toInt)] ++
        [(0x030A, s.cd.fllAcc.toInt), (0x030B, (s.cd.fllFactor.toNat : Int)), (0x030C, s.cd.fllRamp.toNat),
          (0x030D, s.cd.fllUpdates.toNat), (0x030E, s.cd.oscLast.toInt), (0x030F, s.cd.realizedLast.toInt),
          (0x0310, s.cd.secondsSinceReset.toNat), (0x0311, s.cd.histHead.toNat),
          (0x0312, s.cd.histCount.toNat), (0x0313, s.cd.ditherLast.toInt)] ++
        [(0x0320, (s.cd.resyncCount.toNat : Int)), (0x0321, s.cd.jumpSubs.toNat), (0x0322, s.cd.skipped.toNat)] ++
        [(0x0500, (s.cfg.pllFactorMin.toNat : Int)), (0x0501, s.cfg.pllFactorMax.toNat),
          (0x0502, s.cfg.fllFactorMin.toNat), (0x0503, s.cfg.fllFactorMax.toNat),
          (0x0504, s.cfg.fllRateMax.toNat), (0x0505, s.cd.fllRate.toInt),
          (0x0506, s.cfg.disciplineEnable.toNat), (0x0507, s.cfg.phaseFudgeNs.toInt)] ++
        [(0x0600, (s.sys.pendingValid.toNat : Int)), (0x0601, s.sys.pendingPhase.toInt)] ++
        [(0x0700, (0x44474E53 : Int)), (0x0701, s.build.protocol.code), (0x0702, s.build.tickHz),
          (0x0703, s.build.maxPayload), (0x0704, s.build.tsipChecksum.code)]),
      ∃ t, exec (.readReg p.1) s = .next t ∧ t.resp = ⟨.ok, BitVec.ofInt 64 p.2, 0⟩ ∧ t.events = [] ∧
        s.KeepsBlock t ∧ s.KeepsHost t) ∧
    (∀ addr, addr ≤ s.build.maxPayload → ∃ t, exec (.readPb addr) s = .next t ∧ t.resp.status = .ok ∧
      t.resp.r0.toNat = (Cells.read s.pb addr).toNat ∧ t.resp.r1 = 0 ∧ t.events = [] ∧
      s.KeepsBlock t ∧ s.KeepsHost t)

/-- R163 with R187 and R188: RESET gives every register its reset value and clears both stores; the one event it can
emit is PPS_DISABLE, when the PPS output was enabled. The instance and the host's side stay. -/
def Obligations.ResetRestoresResetState : Prop :=
  (∀ w : CmdWord, (opField w).toNat = 0x01 → decode w = .ok .reset) ∧
  ∀ s : State,
    ∃ t, exec .reset s = .next t ∧ t.resp = ⟨.ok, 0, 0⟩ ∧
      (s.hm.ppsEnabled = true → t.events = [.ppsDisable]) ∧ (s.hm.ppsEnabled = false → t.events = []) ∧
      t.tb = ⟨0, 0, false⟩ ∧
      t.gd = ⟨0, 0, 0, 0, 0, 0, 0, false, 0, 0, 0, 0, 0, 0, false, .unlock, false, false, 0⟩ ∧
      t.hm = ⟨.unlock, .unlock, .unlock, .unlock, .unlock, 0, 0, false, 0, 0⟩ ∧
      t.cd = ⟨0, false, 0, 0, false, 0, 0, 64, 0, 0, 0, 8, 0, 0, 0, 0, 0, 0, 0, 0, 0, 0, 0⟩ ∧
      t.sys = ⟨false, 0⟩ ∧ t.cfg = ⟨64, 1024, 8, 256, 2000, true, 0⟩ ∧
      (∀ a, Cells.read t.pb a = 0) ∧ (∀ j, Cells.read t.ph j = 0) ∧
      (State.powerOn s.build).KeepsBlock t ∧ (State.powerOn s.build).events = [] ∧ s.KeepsHost t

/-! ## GPS frames -/

/-- R109 (a) for SIRF: a frame of R61 fed in state 0 is dispatched once, with PB[0..n) equal to the payload; before
that nothing changed but the framing registers and those bytes. Bit 15 of the length, `top`, is ignored (R61, R92). -/
def Obligations.SirfFrameIsDispatched : Prop :=
  ∀ (s : State) (payload frame : List Byte) (top : Nat), s.build.protocol = .sirf → s.build.maxPayload < 2 ^ 16 - 1 →
    Memory.wf s.pb = true → s.gd.state = 0 → payload.length ≤ s.build.maxPayload → payload.length < 2 ^ 15 →
    frame = sirfFrame payload ∨
      ((top = 0 ∨ top = 2 ^ 15) ∧ frame = [0xA0, 0xA2] ++ bigEndian16 (top + payload.length) ++ payload ++
        bigEndian16 (cksSirf payload) ++ [0xB0, 0xB3]) →
    ∃ (u t : State), feedAll frame s = .next t ∧
      (∀ k (hk : k < payload.length), Cells.read u.pb k = payload[k]) ∧
      (∀ a, payload.length ≤ a → Cells.read u.pb a = Cells.read s.pb a) ∧
      u.gd = { s.gd with
        state := 0, len := BitVec.ofNat 16 payload.length, idx := BitVec.ofNat 16 payload.length,
        rx := BitVec.ofNat 8 (cksSirf payload / 2 ^ 8) } ∧
      u.tb = s.tb ∧ u.hm = s.hm ∧ u.cd = s.cd ∧ u.sys = s.sys ∧ u.cfg = s.cfg ∧ u.ph = s.ph ∧ u.events = [] ∧
      u.oscIdx = 0 ∧ s.KeepsHost u ∧
      t = (dispatch payload.length u).1.answer (BitVec.ofNat 64 (dispatch payload.length u).2.code) 0 ∧
      t.gd.good.toNat = (s.gd.good.toNat + 1) % 2 ^ 32 ∧ t.gd.state = 0 ∧ t.gd.garbage = s.gd.garbage ∧
      t.gd.tooBig = s.gd.tooBig ∧ t.gd.cksErr = s.gd.cksErr ∧ t.gd.framingErr = s.gd.framingErr

/-- R109 (a) for TSIP, with either checksum setting: a frame of R63 and R64, its bytes of value DLE doubled, is
dispatched once with PB[0..n) equal to the data. -/
def Obligations.TsipFrameIsDispatched : Prop :=
  ∀ (s : State) (ident : Byte) (data : List Byte), s.build.protocol = .tsip → s.build.maxPayload < 2 ^ 16 - 1 →
    Memory.wf s.pb = true → s.gd.state = 0 → data.length ≤ s.build.maxPayload → ident ≠ 0x10 → ident ≠ 0x03 →
    ∃ (u t : State), feedAll (tsipFrame s.build.tsipChecksum ident data) s = .next t ∧
      (∀ k (hk : k < data.length), Cells.read u.pb k = data[k]) ∧
      (∀ a, (tsipBody s.build.tsipChecksum ident data).length ≤ a → Cells.read u.pb a = Cells.read s.pb a) ∧
      u.gd = { s.gd with
        state := 0, id := ident, ovf := false,
        idx := BitVec.ofNat 16 (tsipBody s.build.tsipChecksum ident data).length } ∧
      u.tb = s.tb ∧ u.hm = s.hm ∧ u.cd = s.cd ∧ u.sys = s.sys ∧ u.cfg = s.cfg ∧ u.ph = s.ph ∧ u.events = [] ∧
      u.oscIdx = 0 ∧ s.KeepsHost u ∧
      t = (dispatch data.length u).1.answer (BitVec.ofNat 64 (dispatch data.length u).2.code) 0 ∧
      t.gd.good.toNat = (s.gd.good.toNat + 1) % 2 ^ 32 ∧ t.gd.state = 0 ∧ t.gd.garbage = s.gd.garbage ∧
      t.gd.tooBig = s.gd.tooBig ∧ t.gd.cksErr = s.gd.cksErr ∧ t.gd.framingErr = s.gd.framingErr

/-- R109 (a) for UBX: a frame of R65 and R66 fed in state 0 is dispatched once, with its class and id in the registers
and PB[0..n) equal to the payload. -/
def Obligations.UbxFrameIsDispatched : Prop :=
  ∀ (s : State) (cls ident : Byte) (payload : List Byte), s.build.protocol = .ubx →
    s.build.maxPayload < 2 ^ 16 - 1 → Memory.wf s.pb = true → s.gd.state = 0 →
    payload.length ≤ s.build.maxPayload →
    ∃ (u t : State), feedAll (ubxFrame cls ident payload) s = .next t ∧
      (∀ k (hk : k < payload.length), Cells.read u.pb k = payload[k]) ∧
      (∀ a, payload.length ≤ a → Cells.read u.pb a = Cells.read s.pb a) ∧
      u.gd = { s.gd with
        state := 0, cls := cls, id := ident,
        len := BitVec.ofNat 16 payload.length, idx := BitVec.ofNat 16 payload.length,
        rx := (fletcher (ubxCovered cls ident payload)).1 } ∧
      u.tb = s.tb ∧ u.hm = s.hm ∧ u.cd = s.cd ∧ u.sys = s.sys ∧ u.cfg = s.cfg ∧ u.ph = s.ph ∧ u.events = [] ∧
      u.oscIdx = 0 ∧ s.KeepsHost u ∧
      t = (dispatch payload.length u).1.answer (BitVec.ofNat 64 (dispatch payload.length u).2.code) 0 ∧
      t.gd.good.toNat = (s.gd.good.toNat + 1) % 2 ^ 32 ∧ t.gd.state = 0 ∧ t.gd.garbage = s.gd.garbage ∧
      t.gd.tooBig = s.gd.tooBig ∧ t.gd.cksErr = s.gd.cksErr ∧ t.gd.framingErr = s.gd.framingErr

/-- R109 (b) for SIRF: one payload or checksum byte replaced by another value gives no dispatch and one checksum error,
and state 0 at the end; the two trailer bytes are then garbage (R90, R94). And the bytes that no frame takes: any byte in
state 0 (R90), and a byte that a start or end sequence does not expect (R91, R95), which counts `g` in GD.garbage or `f`
in GD.framing_err and is then taken again in state 0, where 0xA0 starts a frame and any other byte is garbage (R89). -/
def Obligations.CorruptedSirfFrameIsCounted : Prop :=
  (∀ (s : State) (b : Byte) (g f : Word), s.build.protocol = .sirf →
    (s.gd.state = 0 ∧ g = 0 ∧ f = 0) ∨ (s.gd.state = 1 ∧ b ≠ 0xA2 ∧ g = 1 ∧ f = 0) ∨
      (s.gd.state = 7 ∧ b ≠ 0xB0 ∧ g = 0 ∧ f = 1) ∨ (s.gd.state = 8 ∧ b ≠ 0xB3 ∧ g = 0 ∧ f = 1) →
    ∃ t, exec (.gpsFeed b.toNat) s = .next t ∧ t.resp = ⟨.ok, 0, 0⟩ ∧ t.events = [] ∧
      t.gd = { s.gd with
        state := if b = 0xA0 then 1 else 0,
        garbage := s.gd.garbage + g + (if b = 0xA0 then 0 else 1), framingErr := s.gd.framingErr + f } ∧
      t.tb = s.tb ∧ t.hm = s.hm ∧ t.cd = s.cd ∧ t.sys = s.sys ∧ t.cfg = s.cfg ∧ s.KeepsStores t ∧ s.KeepsHost t) ∧
  ∀ (s : State) (payload sent cks : List Byte) (k : Nat) (b : Byte), s.build.protocol = .sirf →
    s.build.maxPayload < 2 ^ 16 - 1 → Memory.wf s.pb = true → s.gd.state = 0 →
    payload.length ≤ s.build.maxPayload → payload.length < 2 ^ 15 →
    (k < payload.length ∧ payload[k]? ≠ some b ∧ sent = payload.set k b ∧ cks = bigEndian16 (cksSirf payload)) ∨
      (k < 2 ∧ (bigEndian16 (cksSirf payload))[k]? ≠ some b ∧ sent = payload ∧
        cks = (bigEndian16 (cksSirf payload)).set k b) →
    ∃ t : State,
      feedAll ([0xA0, 0xA2] ++ bigEndian16 payload.length ++ sent ++ cks ++ [0xB0, 0xB3]) s = .next t ∧
      t.gd = { s.gd with
        state := 0, len := BitVec.ofNat 16 payload.length, idx := BitVec.ofNat 16 payload.length, rx := t.gd.rx,
        cksErr := s.gd.cksErr + 1, garbage := s.gd.garbage + 2 } ∧
      t.tb = s.tb ∧ t.hm = s.hm ∧ t.cd = s.cd ∧ t.sys = s.sys ∧ t.cfg = s.cfg ∧ t.ph = s.ph ∧ t.events = [] ∧
      (∀ a, payload.length ≤ a → Cells.read t.pb a = Cells.read s.pb a) ∧ s.KeepsHost t

/-- R109 (b) for UBX and (c) for TSIP with ADD8: one class, id, payload or checksum byte of a UBX frame, or one id, data
or checksum byte of a TSIP frame where neither value is DLE, replaced by another value gives no dispatch and one
checksum error, and state 0 at the end. An id replaced by ETX is left out: by R98 no frame starts there. And the bytes
that no frame takes: for UBX any byte in state 0, and one that is not the second sync character, which is taken again
in state 0 (R102, R103); for TSIP a byte that is not DLE in state 0 (R97), DLE or ETX where the id is expected (R98),
and a byte other than DLE and ETX after a DLE in the data, a framing error that starts a new frame with that byte as its
id (R100). And the TSIP frame with ADD8 that has no byte between its id and DLE ETX: one checksum error, no dispatch
(R101). -/
def Obligations.CorruptedUbxAndTsipFramesAreCounted : Prop :=
  (∀ (s : State) (b : Byte) (g : Word), s.build.protocol = .ubx →
    (s.gd.state = 0 ∧ g = 0) ∨ (s.gd.state = 1 ∧ b ≠ 0x62 ∧ g = 1) →
    ∃ t, exec (.gpsFeed b.toNat) s = .next t ∧ t.resp = ⟨.ok, 0, 0⟩ ∧ t.events = [] ∧
      t.gd = { s.gd with
        state := if b = 0xB5 then 1 else 0, garbage := s.gd.garbage + g + (if b = 0xB5 then 0 else 1) } ∧
      t.tb = s.tb ∧ t.hm = s.hm ∧ t.cd = s.cd ∧ t.sys = s.sys ∧ t.cfg = s.cfg ∧ s.KeepsStores t ∧ s.KeepsHost t) ∧
  (∀ (s : State) (b : Byte) (gd : GpsDecoder), s.build.protocol = .tsip →
    (s.gd.state = 0 ∧ b ≠ 0x10 ∧ gd = { s.gd with garbage := s.gd.garbage + 1 }) ∨
      (s.gd.state = 1 ∧ (b = 0x10 ∨ b = 0x03) ∧ gd = { s.gd with state := 0, garbage := s.gd.garbage + 2 }) ∨
      (s.gd.state = 3 ∧ b ≠ 0x10 ∧ b ≠ 0x03 ∧
        gd = { s.gd with state := 2, id := b, idx := 0, ovf := false, framingErr := s.gd.framingErr + 1 }) →
    ∃ t, exec (.gpsFeed b.toNat) s = .next t ∧ t.resp = ⟨.ok, 0, 0⟩ ∧ t.events = [] ∧ t.gd = gd ∧
      t.tb = s.tb ∧ t.hm = s.hm ∧ t.cd = s.cd ∧ t.sys = s.sys ∧ t.cfg = s.cfg ∧ s.KeepsStores t ∧ s.KeepsHost t) ∧
  (∀ (s : State) (cls ident : Byte) (payload sent : List Byte) (cls' ident' ckA ckB : Byte) (k : Nat) (b : Byte),
    s.build.protocol = .ubx → s.build.maxPayload < 2 ^ 16 - 1 → Memory.wf s.pb = true → s.gd.state = 0 →
    payload.length ≤ s.build.maxPayload →
    (cls' ≠ cls ∧ ident' = ident ∧ sent = payload ∧ (ckA, ckB) = fletcher (ubxCovered cls ident payload)) ∨
      (cls' = cls ∧ ident' ≠ ident ∧ sent = payload ∧ (ckA, ckB) = fletcher (ubxCovered cls ident payload)) ∨
      (cls' = cls ∧ ident' = ident ∧ k < payload.length ∧ payload[k]? ≠ some b ∧ sent = payload.set k b ∧
        (ckA, ckB) = fletcher (ubxCovered cls ident payload)) ∨
      (cls' = cls ∧ ident' = ident ∧ sent = payload ∧ (ckA, ckB) ≠ fletcher (ubxCovered cls ident payload)) →
    ∃ t : State,
      feedAll ([0xB5, 0x62, cls', ident'] ++ littleEndian16 payload.length ++ sent ++ [ckA, ckB]) s = .next t ∧
      t.gd = { s.gd with
        state := 0, cls := cls', id := ident', len := BitVec.ofNat 16 payload.length,
        idx := BitVec.ofNat 16 payload.length, rx := ckA, cksErr := s.gd.cksErr + 1 } ∧
      t.tb = s.tb ∧ t.hm = s.hm ∧ t.cd = s.cd ∧ t.sys = s.sys ∧ t.cfg = s.cfg ∧ t.ph = s.ph ∧ t.events = [] ∧
      (∀ a, payload.length ≤ a → Cells.read t.pb a = Cells.read s.pb a) ∧ s.KeepsHost t) ∧
  (∀ (s : State) (ident : Byte), s.build.protocol = .tsip → s.build.tsipChecksum = .add8 → s.gd.state = 0 →
    ident ≠ 0x10 → ident ≠ 0x03 →
    ∃ t, feedAll [0x10, ident, 0x10, 0x03] s = .next t ∧ t.resp = ⟨.ok, 0, 0⟩ ∧ t.events = [] ∧
      t.gd = { s.gd with state := 0, id := ident, ovf := false, idx := 0, cksErr := s.gd.cksErr + 1 } ∧
      t.tb = s.tb ∧ t.hm = s.hm ∧ t.cd = s.cd ∧ t.sys = s.sys ∧ t.cfg = s.cfg ∧ s.KeepsStores t ∧ s.KeepsHost t) ∧
  (∀ (s : State) (ident ident' : Byte) (data sent : List Byte) (k : Nat) (b : Byte),
    s.build.protocol = .tsip → s.build.tsipChecksum = .add8 → s.build.maxPayload < 2 ^ 16 - 1 →
    Memory.wf s.pb = true → s.gd.state = 0 → data.length ≤ s.build.maxPayload → ident ≠ 0x10 → ident ≠ 0x03 →
    (ident' ≠ ident ∧ ident' ≠ 0x10 ∧ ident' ≠ 0x03 ∧ sent = data ++ [cksTsip ident data]) ∨
      (ident' = ident ∧ k < data.length + 1 ∧ (data ++ [cksTsip ident data])[k]? ≠ some b ∧
        (data ++ [cksTsip ident data])[k]? ≠ some 0x10 ∧ b ≠ 0x10 ∧
        sent = (data ++ [cksTsip ident data]).set k b) →
    ∃ t : State,
      feedAll ([0x10, ident'] ++ stuffed sent ++ [0x10, 0x03]) s = .next t ∧
      t.gd = { s.gd with
        state := 0, id := ident', ovf := false, idx := BitVec.ofNat 16 (data.length + 1),
        cksErr := s.gd.cksErr + 1 } ∧
      t.tb = s.tb ∧ t.hm = s.hm ∧ t.cd = s.cd ∧ t.sys = s.sys ∧ t.cfg = s.cfg ∧ t.ph = s.ph ∧ t.events = [] ∧
      (∀ a, data.length + 1 ≤ a → Cells.read t.pb a = Cells.read s.pb a) ∧ s.KeepsHost t)

/-- R92 with R96, and R105 with R108: a frame that declares more than MAX_PAYLOAD bytes is counted once as too big and
drained, payload, checksum and trailer, whatever they are, without a byte stored; the machine is then in state 0. R99
with R101: a TSIP frame with more bytes, unstuffed, than the capacity is counted once as too big, its bytes beyond the
capacity are not stored, and DLE ETX ends it in state 0 with no dispatch. Bit 15 of a SIRF length, `top`, is ignored
(R92). -/
def Obligations.OverLengthFramesAreDrained : Prop :=
  (∀ (s : State) (n top : Nat) (rest : List Byte), s.build.protocol = .sirf → s.gd.state = 0 →
    s.build.maxPayload < n → n < 2 ^ 15 → (top = 0 ∨ top = 2 ^ 15) → rest.length = n + 4 →
    ∃ t, feedAll ([0xA0, 0xA2] ++ bigEndian16 (top + n) ++ rest) s = .next t ∧
      t.gd = { s.gd with
        state := 0, len := BitVec.ofNat 16 n, idx := 0, drain := 0, tooBig := s.gd.tooBig + 1 } ∧
      t.tb = s.tb ∧ t.hm = s.hm ∧ t.cd = s.cd ∧ t.sys = s.sys ∧ t.cfg = s.cfg ∧ s.KeepsStores t ∧
      t.events = [] ∧ s.KeepsHost t) ∧
  (∀ (s : State) (cls ident : Byte) (n : Nat) (rest : List Byte), s.build.protocol = .ubx → s.gd.state = 0 →
    s.build.maxPayload < n → n < 2 ^ 16 → rest.length = n + 2 →
    ∃ t, feedAll ([0xB5, 0x62, cls, ident] ++ littleEndian16 n ++ rest) s = .next t ∧
      t.gd = { s.gd with
        state := 0, cls := cls, id := ident, len := BitVec.ofNat 16 n, idx := 0, drain := 0,
        tooBig := s.gd.tooBig + 1 } ∧
      t.tb = s.tb ∧ t.hm = s.hm ∧ t.cd = s.cd ∧ t.sys = s.sys ∧ t.cfg = s.cfg ∧ s.KeepsStores t ∧
      t.events = [] ∧ s.KeepsHost t) ∧
  (∀ (s : State) (ident : Byte) (body : List Byte), s.build.protocol = .tsip → s.build.maxPayload < 2 ^ 16 - 1 →
    Memory.wf s.pb = true → s.gd.state = 0 → ident ≠ 0x10 → ident ≠ 0x03 → tsipCap s.build < body.length →
    ∃ t, feedAll ([0x10, ident] ++ stuffed body ++ [0x10, 0x03]) s = .next t ∧ t.resp = ⟨.ok, 0, 0⟩ ∧
      t.gd = { s.gd with
        state := 0, id := ident, ovf := true, idx := BitVec.ofNat 16 (tsipCap s.build),
        tooBig := s.gd.tooBig + 1 } ∧
      (∀ k (hk : k < body.length), k < tsipCap s.build → Cells.read t.pb k = body[k]) ∧
      (∀ a, tsipCap s.build ≤ a → Cells.read t.pb a = Cells.read s.pb a) ∧ t.ph = s.ph ∧
      t.tb = s.tb ∧ t.hm = s.hm ∧ t.cd = s.cd ∧ t.sys = s.sys ∧ t.cfg = s.cfg ∧ t.events = [] ∧ s.KeepsHost t)

/-! ## GPS messages -/

/-- R111, R112, R113, R114 and R120 for SIRF: what the dispatch of a frame with payload PB[0..n) does, for a Clock
Status message, a 1PPS Time message, and any other frame. The first two set the Gps status and then update: the health
registers, the discipline and the events are those of HM_UPDATE at the new date and status (R111, R123). R113's bound on
the time of week is WEEK_SECONDS, written as 604800 there (log entry 14). -/
def Obligations.SirfMessages : Prop :=
  ∀ (s t : State) (n : Nat) (ev : FeedEvent), s.build.protocol = .sirf → dispatch n s = (t, ev) →
    let byte := fun k => (Cells.read s.pb k).toNat
    let g := { s.gd with good := s.gd.good + 1 }
    (8 ≤ n → byte 0 = 7 → ∀ (week tow : Nat) (valid : Bool),
      week = byte 1 * 256 + byte 2 →
      tow = (byte 3 * 16777216 + byte 4 * 65536 + byte 5 * 256 + byte 6) / 100 →
      (valid = true ↔ s.gd.utcKnown = true ∧ 0 < byte 7 ∧ tow < s.build.weekSeconds) →
      ev = .fix ∧ t.gd = { g with fixValid := valid } ∧
      (valid = true → t.tb = (tbSetDate week tow s.gd.utcOffset.toInt s).tb ∧ t.hm.gps = s.gd.alarm) ∧
      (valid = false → t.tb = s.tb ∧ t.hm.gps = .unlock)) ∧
    (15 ≤ n → byte 0 = 52 → ∀ (known : Bool) (off : Int),
      off = (if byte 8 < 128 then ((byte 8 * 256 + byte 9 : Nat) : Int) else byte 8 * 256 + byte 9 - 65536) →
      (known = true ↔ (byte 14).testBit 2 = true ∧ off ≠ -32768) →
      ev = .status ∧ t.tb = s.tb ∧ t.gd.utcKnown = known ∧
      (known = true → t.gd.utcOffset.toInt = -off) ∧ (known = false → t.gd.utcOffset = s.gd.utcOffset) ∧
      ((byte 14).testBit 0 = false → t.gd.alarm = .unlock) ∧
      ((byte 14).testBit 0 = true → (byte 14).testBit 2 = false → t.gd.alarm = .minorAlarm) ∧
      ((byte 14).testBit 0 = true → (byte 14).testBit 2 = true → t.gd.alarm = .ok) ∧
      t.gd = { g with utcKnown := t.gd.utcKnown, utcOffset := t.gd.utcOffset, alarm := t.gd.alarm } ∧
      t.hm.gps = if s.gd.fixValid then t.gd.alarm else .unlock) ∧
    (n = 0 ∨ (byte 0 ≠ 7 ∧ byte 0 ≠ 52) ∨ (byte 0 = 7 ∧ n < 8) ∨ (byte 0 = 52 ∧ n < 15) →
      ev = .none ∧ t.tb = s.tb ∧ t.gd = { g with unknown := s.gd.unknown + 1 } ∧
      t.hm = { s.hm with gpsWdt := 0 } ∧ t.cd = s.cd ∧ t.events = s.events) ∧
    (ev ≠ .none → s.oscIdx = 0 →
      ∃ u, exec .hmUpdate { s with tb := t.tb, hm := { s.hm with gps := t.hm.gps, gpsWdt := 0 } } = .next u ∧
        t.hm = u.hm ∧ t.cd = u.cd ∧ t.oscIdx = u.oscIdx ∧ t.events = s.events ++ u.events) ∧
    t.hm.gpsWdt = 0 ∧ t.hm.osc = s.hm.osc ∧ t.hm.pll = s.hm.pll ∧ t.hm.fll = s.hm.fll ∧ t.sys = s.sys ∧
    t.cfg = s.cfg ∧ s.KeepsStores t ∧ s.KeepsHost t

/-- R111, R112, R115, R116 and R120 for TSIP: what the dispatch of a packet with data PB[0..n) does, for a Primary
Timing packet, a Supplemental Timing packet, and any other packet. The first two set the Gps status and then update, as
in SirfMessages. R115's bound on the time of week is WEEK_SECONDS, written as 604800 there (log entry 14). -/
def Obligations.TsipMessages : Prop :=
  ∀ (s t : State) (n : Nat) (ev : FeedEvent), s.build.protocol = .tsip → dispatch n s = (t, ev) →
    let byte := fun k => (Cells.read s.pb k).toNat
    let g := { s.gd with good := s.gd.good + 1 }
    (10 ≤ n → s.gd.id = 0x8F → byte 0 = 0xAB → ∀ (week tow : Nat) (u : Int) (valid : Bool),
      tow = byte 1 * 16777216 + byte 2 * 65536 + byte 3 * 256 + byte 4 → week = byte 5 * 256 + byte 6 →
      u = (if byte 7 < 128 then ((byte 7 * 256 + byte 8 : Nat) : Int) else byte 7 * 256 + byte 8 - 65536) →
      (valid = true ↔ (byte 9).testBit 2 = false ∧ (byte 9).testBit 3 = false ∧ s.gd.block = false ∧
        tow < s.build.weekSeconds ∧ u ≠ -32768) →
      ev = .fix ∧ t.gd = { g with fixValid := valid } ∧
      (valid = true → t.tb = (tbSetDate week tow (-u) s).tb ∧ t.hm.gps = s.gd.alarm) ∧
      (valid = false → t.tb = s.tb ∧ t.hm.gps = .unlock)) ∧
    (13 ≤ n → s.gd.id = 0x8F → byte 0 = 0xAC → ∀ (crit minor : Nat) (block : Bool),
      crit = byte 8 * 256 + byte 9 → minor = byte 10 * 256 + byte 11 →
      (block = true ↔ crit ≠ 0 ∨ minor &&& s.build.tsipFixblockMinorMask.toNat ≠ 0) →
      ev = .status ∧ t.tb = s.tb ∧ t.gd.block = block ∧ t.gd.fixValid = (s.gd.fixValid && !block) ∧
      (crit ≠ 0 ∨ byte 12 ≠ 0 ∨ minor &&& s.build.tsipUnlockMinorMask.toNat ≠ 0 → t.gd.alarm = .unlock) ∧
      (crit = 0 → byte 12 = 0 → minor &&& s.build.tsipUnlockMinorMask.toNat = 0 →
        minor &&& s.build.tsipMinorAlarmMask.toNat ≠ 0 → t.gd.alarm = .minorAlarm) ∧
      (crit = 0 → byte 12 = 0 → minor &&& s.build.tsipUnlockMinorMask.toNat = 0 →
        minor &&& s.build.tsipMinorAlarmMask.toNat = 0 → t.gd.alarm = .ok) ∧
      t.gd = { g with block := t.gd.block, fixValid := t.gd.fixValid, alarm := t.gd.alarm } ∧
      t.hm.gps = if t.gd.fixValid then t.gd.alarm else .unlock) ∧
    (s.gd.id ≠ 0x8F ∨ n = 0 ∨ (byte 0 ≠ 0xAB ∧ byte 0 ≠ 0xAC) ∨ (byte 0 = 0xAB ∧ n < 10) ∨
        (byte 0 = 0xAC ∧ n < 13) →
      ev = .none ∧ t.tb = s.tb ∧ t.gd = { g with unknown := s.gd.unknown + 1 } ∧
      t.hm = { s.hm with gpsWdt := 0 } ∧ t.cd = s.cd ∧ t.events = s.events) ∧
    (ev ≠ .none → s.oscIdx = 0 →
      ∃ u, exec .hmUpdate { s with tb := t.tb, hm := { s.hm with gps := t.hm.gps, gpsWdt := 0 } } = .next u ∧
        t.hm = u.hm ∧ t.cd = u.cd ∧ t.oscIdx = u.oscIdx ∧ t.events = s.events ++ u.events) ∧
    t.hm.gpsWdt = 0 ∧ t.hm.osc = s.hm.osc ∧ t.hm.pll = s.hm.pll ∧ t.hm.fll = s.hm.fll ∧ t.sys = s.sys ∧
    t.cfg = s.cfg ∧ s.KeepsStores t ∧ s.KeepsHost t

/-- R111, R112, R117, R118, R119 and R120 for UBX: what the dispatch of a frame with payload PB[0..n) does, for
NAV-TIMEGPS, NAV-STATUS, TIM-SVIN, and any other frame. The first three set the Gps status and then update, as in
SirfMessages. R117's bound on the time of week is WEEK_SECONDS, written as 604800 there (log entry 14). -/
def Obligations.UbxMessages : Prop :=
  ∀ (s t : State) (n : Nat) (ev : FeedEvent), s.build.protocol = .ubx → dispatch n s = (t, ev) →
    let byte := fun k => (Cells.read s.pb k).toNat
    let g := { s.gd with good := s.gd.good + 1 }
    (12 ≤ n → s.gd.cls = 0x01 → s.gd.id = 0x20 → ∀ (week tow : Nat) (leap : Int) (valid : Bool),
      tow = (byte 0 + byte 1 * 256 + byte 2 * 65536 + byte 3 * 16777216) / 1000 →
      week = byte 8 + byte 9 * 256 →
      leap = (if byte 10 < 128 then (byte 10 : Int) else byte 10 - 256) →
      (valid = true ↔ byte 11 % 8 = 7 ∧ s.gd.block = false ∧ week < 32768 ∧ tow < s.build.weekSeconds) →
      ev = .fix ∧ t.gd = { g with fixValid := valid } ∧
      (valid = true → t.tb = (tbSetDate week tow (-leap) s).tb ∧ t.hm.gps = s.gd.alarm) ∧
      (valid = false → t.tb = s.tb ∧ t.hm.gps = .unlock)) ∧
    (6 ≤ n → s.gd.cls = 0x01 → s.gd.id = 0x03 →
      ev = .status ∧ t.tb = s.tb ∧
      ((byte 5).testBit 0 = false ∨ byte 4 = 0 → t.gd.alarm = .unlock) ∧
      ((byte 5).testBit 0 = true → byte 4 = 3 ∨ byte 4 = 5 → t.gd.alarm = .ok) ∧
      ((byte 5).testBit 0 = true → byte 4 ≠ 0 → byte 4 ≠ 3 → byte 4 ≠ 5 → t.gd.alarm = .minorAlarm) ∧
      t.gd = { g with alarm := t.gd.alarm } ∧ t.hm.gps = if s.gd.fixValid then t.gd.alarm else .unlock) ∧
    (26 ≤ n → s.gd.cls = 0x0D → s.gd.id = 0x04 →
      ev = .status ∧ t.tb = s.tb ∧ (t.gd.block = true ↔ byte 25 ≠ 0) ∧
      t.gd.fixValid = (s.gd.fixValid && !t.gd.block) ∧
      t.gd = { g with block := t.gd.block, fixValid := t.gd.fixValid } ∧
      t.hm.gps = if t.gd.fixValid then s.gd.alarm else .unlock) ∧
    (¬ (s.gd.cls = 0x01 ∧ s.gd.id = 0x20 ∧ 12 ≤ n) → ¬ (s.gd.cls = 0x01 ∧ s.gd.id = 0x03 ∧ 6 ≤ n) →
      ¬ (s.gd.cls = 0x0D ∧ s.gd.id = 0x04 ∧ 26 ≤ n) →
      ev = .none ∧ t.tb = s.tb ∧ t.gd = { g with unknown := s.gd.unknown + 1 } ∧
      t.hm = { s.hm with gpsWdt := 0 } ∧ t.cd = s.cd ∧ t.events = s.events) ∧
    (ev ≠ .none → s.oscIdx = 0 →
      ∃ u, exec .hmUpdate { s with tb := t.tb, hm := { s.hm with gps := t.hm.gps, gpsWdt := 0 } } = .next u ∧
        t.hm = u.hm ∧ t.cd = u.cd ∧ t.oscIdx = u.oscIdx ∧ t.events = s.events ++ u.events) ∧
    t.hm.gpsWdt = 0 ∧ t.hm.osc = s.hm.osc ∧ t.hm.pll = s.hm.pll ∧ t.hm.fll = s.hm.fll ∧ t.sys = s.sys ∧
    t.cfg = s.cfg ∧ s.KeepsStores t ∧ s.KeepsHost t
end

