-- ==== Sys2Proof/Laws/Cells.lean ====
section
/-! SUPPORT. The laws of the sparse stores PB and PH: a read after a write, the canonical form that every write keeps,
the bound on the addresses, and that equal reads mean equal data. -/

namespace Sys2Proof.Machine

variable {w : Nat}

/-- A read of an address below every listed one finds nothing. -/
theorem Cells.read_of_all_lt {m : Cells w} {a : Nat} (h : m.all (fun c => decide (a < c.1)) = true) :
    Cells.read m a = 0 := by
  induction m with
  | nil => rfl
  | cons c m ih =>
    simp only [List.all_cons, Bool.and_eq_true, decide_eq_true_eq] at h
    have : c.1 ≠ a := by omega
    simp [Cells.read, this, ih h.2]

/-- What a read gives after a write, at every address (R39, R42). -/
theorem Cells.read_write (m : Cells w) (hm : Cells.wf m = true) (a b : Nat) (v : BitVec w) :
    Cells.read (Cells.write m a v) b = if b = a then v else Cells.read m b := by
  induction m with
  | nil =>
    by_cases hv : v = 0
    · simp [Cells.write, Cells.read, hv]
    · simp only [Cells.write, if_neg hv, Cells.read]
      by_cases hb : b = a
      · simp [hb]
      · simp [hb, show a ≠ b from fun h => hb h.symm]
  | cons c m ih =>
    obtain ⟨k, x⟩ := c
    simp only [Cells.wf, Bool.and_eq_true] at hm
    have hlt : ∀ d, d ≤ k → Cells.read m d = 0 := fun d hd => Cells.read_of_all_lt (by
      have := hm.1.2
      simp only [List.all_eq_true, decide_eq_true_eq] at this ⊢
      intro c hc; have := this c hc; omega)
    simp only [Cells.write]
    split
    · rename_i hak
      by_cases hv : v = 0
      · by_cases hb : b = a
        · have hk : k ≠ b := by omega
          simp [hv, hb, Cells.read, show k ≠ a by omega, hlt a (by omega)]
        · simp [hv, hb]
      · rw [if_neg hv]
        by_cases hb : b = a
        · simp [hb, Cells.read]
        · simp [hb, Cells.read, show a ≠ b from fun h => hb h.symm]
    · split
      · rename_i h1 h2
        subst h2
        by_cases hv : v = 0
        · by_cases hb : b = a
          · simp [hv, hb, hlt a (Nat.le_refl _)]
          · simp [hv, hb, Cells.read, show a ≠ b from fun h => hb h.symm]
        · rw [if_neg hv]
          by_cases hb : b = a
          · simp [hb, Cells.read]
          · simp [hb, Cells.read, show a ≠ b from fun h => hb h.symm]
      · rename_i h1 h2
        by_cases hk : k = b
        · have hb : b ≠ a := by omega
          simp [Cells.read, hk, hb]
        · simp [Cells.read, hk, ih hm.2]

/-- The address just written reads as the value written. -/
theorem Cells.read_write_self (m : Cells w) (hm : Cells.wf m = true) (a : Nat) (v : BitVec w) :
    Cells.read (Cells.write m a v) a = v := by simp [Cells.read_write m hm]

/-- Every other address reads as before. -/
theorem Cells.read_write_other (m : Cells w) (hm : Cells.wf m = true) {a b : Nat} (h : b ≠ a) (v : BitVec w) :
    Cells.read (Cells.write m a v) b = Cells.read m b := by simp [Cells.read_write m hm, h]

/-- A write lists no address but its own and those listed before. -/
theorem Cells.all_write {m : Cells w} {p : Nat → Bool} (hm : m.all (fun c => p c.1) = true) (a : Nat) (ha : p a = true)
    (v : BitVec w) : (Cells.write m a v).all (fun c => p c.1) = true := by
  induction m with
  | nil => by_cases hv : v = 0 <;> simp [Cells.write, hv, ha]
  | cons c m ih =>
    obtain ⟨k, x⟩ := c
    simp only [List.all_cons, Bool.and_eq_true] at hm
    simp only [Cells.write]
    split
    · by_cases hv : v = 0 <;> simp only [hv, if_true, if_false, List.all_cons, Bool.and_eq_true] <;>
        simp only [ha, hm.1, hm.2, and_self]
    · split
      · by_cases hv : v = 0 <;> simp only [hv, if_true, if_false, List.all_cons, Bool.and_eq_true] <;>
          simp only [ha, hm.2, and_self]
      · simp only [List.all_cons, Bool.and_eq_true]
        exact ⟨hm.1, ih hm.2⟩

/-- A write keeps the canonical form. -/
theorem Cells.wf_write {m : Cells w} (hm : Cells.wf m = true) (a : Nat) (v : BitVec w) :
    Cells.wf (Cells.write m a v) = true := by
  induction m with
  | nil =>
    simp only [Cells.write]
    split
    · rfl
    · rename_i hv; simp only [Cells.wf, List.all_nil, Bool.and_true, decide_eq_true_eq]; exact hv
  | cons c m ih =>
    obtain ⟨k, x⟩ := c
    have hm' := hm
    simp only [Cells.wf, Bool.and_eq_true] at hm
    simp only [Cells.write]
    split
    · rename_i hak
      by_cases hv : v = 0
      · simpa [hv] using hm'
      · have hall : m.all (fun c => decide (a < c.1)) = true := by
          have := hm.1.2
          simp only [List.all_eq_true, decide_eq_true_eq] at this ⊢
          intro c hc; have := this c hc; omega
        rw [if_neg hv]
        simp only [Cells.wf, Bool.and_eq_true, List.all_cons, decide_eq_true_eq]
        exact ⟨⟨hv, hak, hall⟩, ⟨by simpa using hm.1.1, hm.1.2⟩, hm.2⟩
    · split
      · rename_i h1 h2
        subst h2
        by_cases hv : v = 0
        · simpa [hv] using hm.2
        · rw [if_neg hv]
          simp only [Cells.wf, Bool.and_eq_true, decide_eq_true_eq]
          exact ⟨⟨hv, hm.1.2⟩, hm.2⟩
      · rename_i h1 h2
        simp only [Cells.wf, Bool.and_eq_true]
        exact ⟨⟨hm.1.1, Cells.all_write (p := fun n => decide (k < n)) hm.1.2 a (by simp; omega) v⟩, ih hm.2⟩

/-- A write below the bound keeps every address below it. -/
theorem Cells.below_write {m : Cells w} {n : Nat} (hm : Cells.below m n = true) {a : Nat} (ha : a < n)
    (v : BitVec w) : Cells.below (Cells.write m a v) n = true :=
  Cells.all_write (p := fun k => decide (k < n)) hm a (by simpa using ha) v

/-- Two stores in canonical form that read alike are the same data. -/
theorem Cells.ext_read {m m' : Cells w} (hm : Cells.wf m = true) (hm' : Cells.wf m' = true)
    (h : ∀ a, Cells.read m a = Cells.read m' a) : m = m' := by
  induction m generalizing m' with
  | nil =>
    cases m' with
    | nil => rfl
    | cons c t =>
      simp only [Cells.wf, Bool.and_eq_true, decide_eq_true_eq] at hm'
      exact absurd (by simpa [Cells.read] using (h c.1).symm) hm'.1.1
  | cons c t ih =>
    obtain ⟨k, x⟩ := c
    cases m' with
    | nil =>
      simp only [Cells.wf, Bool.and_eq_true, decide_eq_true_eq] at hm
      exact absurd (by simpa [Cells.read] using h k) hm.1.1
    | cons c' t' =>
      obtain ⟨k', x'⟩ := c'
      simp only [Cells.wf, Bool.and_eq_true, decide_eq_true_eq] at hm hm'
      have low : ∀ {t : Cells w} {k d : Nat}, t.all (fun c => decide (k < c.1)) = true → d ≤ k → Cells.read t d = 0 := by
        intro t k d ht hd
        refine Cells.read_of_all_lt ?_
        simp only [List.all_eq_true, decide_eq_true_eq] at ht ⊢
        intro c hc; have := ht c hc; omega
      have hk : k = k' := by
        rcases Nat.lt_trichotomy k k' with hlt | heq | hgt
        · have h1 := h k
          simp [Cells.read, show k' ≠ k by omega, low hm'.1.2 (Nat.le_of_lt hlt)] at h1
          exact absurd h1 hm.1.1
        · exact heq
        · have h1 := h k'
          simp [Cells.read, show k ≠ k' by omega, low hm.1.2 (Nat.le_of_lt hgt)] at h1
          exact absurd h1.symm hm'.1.1
      subst hk
      have hx : x = x' := by simpa [Cells.read] using h k
      subst hx
      have ht : t = t' := ih hm.2 hm'.2 (fun a => by
        by_cases ha : k = a
        · subst ha; rw [low hm.1.2 (Nat.le_refl _), low hm'.1.2 (Nat.le_refl _)]
        · simpa [Cells.read, ha] using h a)
      rw [ht]

/-- Nothing listed is in canonical form. -/
theorem Cells.wf_nil : Cells.wf ([] : Cells w) = true := rfl

/-- The memory after power-on, and so State.reset's, is in canonical form. -/
theorem State.powerOn_memory (b : Build) :
    Memory.wf (State.powerOn b).pb = true ∧ Cells.wf (State.powerOn b).ph = true := ⟨rfl, rfl⟩

end Sys2Proof.Machine
end

