-- ==== Sys2Proof/Laws/State.lean ====
section
/-! SUPPORT. One lemma per field per update of State, so that no later proof unfolds a record update. -/

namespace Sys2Proof.Machine

variable (s : State)

/-! ## withTb -/

@[simp] theorem State.withTb_tb (x : TimeBase) : (s.withTb x).tb = x := rfl
@[simp] theorem State.withTb_gd (x : TimeBase) : (s.withTb x).gd = s.gd := rfl
@[simp] theorem State.withTb_hm (x : TimeBase) : (s.withTb x).hm = s.hm := rfl
@[simp] theorem State.withTb_cd (x : TimeBase) : (s.withTb x).cd = s.cd := rfl
@[simp] theorem State.withTb_sys (x : TimeBase) : (s.withTb x).sys = s.sys := rfl
@[simp] theorem State.withTb_cfg (x : TimeBase) : (s.withTb x).cfg = s.cfg := rfl
@[simp] theorem State.withTb_pb (x : TimeBase) : (s.withTb x).pb = s.pb := rfl
@[simp] theorem State.withTb_ph (x : TimeBase) : (s.withTb x).ph = s.ph := rfl
@[simp] theorem State.withTb_build (x : TimeBase) : (s.withTb x).build = s.build := rfl
@[simp] theorem State.withTb_cmdIndex (x : TimeBase) : (s.withTb x).cmdIndex = s.cmdIndex := rfl
@[simp] theorem State.withTb_pending (x : TimeBase) : (s.withTb x).pending = s.pending := rfl
@[simp] theorem State.withTb_env (x : TimeBase) : (s.withTb x).env = s.env := rfl
@[simp] theorem State.withTb_oscIdx (x : TimeBase) : (s.withTb x).oscIdx = s.oscIdx := rfl
@[simp] theorem State.withTb_resp (x : TimeBase) : (s.withTb x).resp = s.resp := rfl
@[simp] theorem State.withTb_events (x : TimeBase) : (s.withTb x).events = s.events := rfl

/-! ## withGd -/

@[simp] theorem State.withGd_tb (x : GpsDecoder) : (s.withGd x).tb = s.tb := rfl
@[simp] theorem State.withGd_gd (x : GpsDecoder) : (s.withGd x).gd = x := rfl
@[simp] theorem State.withGd_hm (x : GpsDecoder) : (s.withGd x).hm = s.hm := rfl
@[simp] theorem State.withGd_cd (x : GpsDecoder) : (s.withGd x).cd = s.cd := rfl
@[simp] theorem State.withGd_sys (x : GpsDecoder) : (s.withGd x).sys = s.sys := rfl
@[simp] theorem State.withGd_cfg (x : GpsDecoder) : (s.withGd x).cfg = s.cfg := rfl
@[simp] theorem State.withGd_pb (x : GpsDecoder) : (s.withGd x).pb = s.pb := rfl
@[simp] theorem State.withGd_ph (x : GpsDecoder) : (s.withGd x).ph = s.ph := rfl
@[simp] theorem State.withGd_build (x : GpsDecoder) : (s.withGd x).build = s.build := rfl
@[simp] theorem State.withGd_cmdIndex (x : GpsDecoder) : (s.withGd x).cmdIndex = s.cmdIndex := rfl
@[simp] theorem State.withGd_pending (x : GpsDecoder) : (s.withGd x).pending = s.pending := rfl
@[simp] theorem State.withGd_env (x : GpsDecoder) : (s.withGd x).env = s.env := rfl
@[simp] theorem State.withGd_oscIdx (x : GpsDecoder) : (s.withGd x).oscIdx = s.oscIdx := rfl
@[simp] theorem State.withGd_resp (x : GpsDecoder) : (s.withGd x).resp = s.resp := rfl
@[simp] theorem State.withGd_events (x : GpsDecoder) : (s.withGd x).events = s.events := rfl

/-! ## withHm -/

@[simp] theorem State.withHm_tb (x : HealthMonitor) : (s.withHm x).tb = s.tb := rfl
@[simp] theorem State.withHm_gd (x : HealthMonitor) : (s.withHm x).gd = s.gd := rfl
@[simp] theorem State.withHm_hm (x : HealthMonitor) : (s.withHm x).hm = x := rfl
@[simp] theorem State.withHm_cd (x : HealthMonitor) : (s.withHm x).cd = s.cd := rfl
@[simp] theorem State.withHm_sys (x : HealthMonitor) : (s.withHm x).sys = s.sys := rfl
@[simp] theorem State.withHm_cfg (x : HealthMonitor) : (s.withHm x).cfg = s.cfg := rfl
@[simp] theorem State.withHm_pb (x : HealthMonitor) : (s.withHm x).pb = s.pb := rfl
@[simp] theorem State.withHm_ph (x : HealthMonitor) : (s.withHm x).ph = s.ph := rfl
@[simp] theorem State.withHm_build (x : HealthMonitor) : (s.withHm x).build = s.build := rfl
@[simp] theorem State.withHm_cmdIndex (x : HealthMonitor) : (s.withHm x).cmdIndex = s.cmdIndex := rfl
@[simp] theorem State.withHm_pending (x : HealthMonitor) : (s.withHm x).pending = s.pending := rfl
@[simp] theorem State.withHm_env (x : HealthMonitor) : (s.withHm x).env = s.env := rfl
@[simp] theorem State.withHm_oscIdx (x : HealthMonitor) : (s.withHm x).oscIdx = s.oscIdx := rfl
@[simp] theorem State.withHm_resp (x : HealthMonitor) : (s.withHm x).resp = s.resp := rfl
@[simp] theorem State.withHm_events (x : HealthMonitor) : (s.withHm x).events = s.events := rfl

/-! ## withCd -/

@[simp] theorem State.withCd_tb (x : ClockDiscipline) : (s.withCd x).tb = s.tb := rfl
@[simp] theorem State.withCd_gd (x : ClockDiscipline) : (s.withCd x).gd = s.gd := rfl
@[simp] theorem State.withCd_hm (x : ClockDiscipline) : (s.withCd x).hm = s.hm := rfl
@[simp] theorem State.withCd_cd (x : ClockDiscipline) : (s.withCd x).cd = x := rfl
@[simp] theorem State.withCd_sys (x : ClockDiscipline) : (s.withCd x).sys = s.sys := rfl
@[simp] theorem State.withCd_cfg (x : ClockDiscipline) : (s.withCd x).cfg = s.cfg := rfl
@[simp] theorem State.withCd_pb (x : ClockDiscipline) : (s.withCd x).pb = s.pb := rfl
@[simp] theorem State.withCd_ph (x : ClockDiscipline) : (s.withCd x).ph = s.ph := rfl
@[simp] theorem State.withCd_build (x : ClockDiscipline) : (s.withCd x).build = s.build := rfl
@[simp] theorem State.withCd_cmdIndex (x : ClockDiscipline) : (s.withCd x).cmdIndex = s.cmdIndex := rfl
@[simp] theorem State.withCd_pending (x : ClockDiscipline) : (s.withCd x).pending = s.pending := rfl
@[simp] theorem State.withCd_env (x : ClockDiscipline) : (s.withCd x).env = s.env := rfl
@[simp] theorem State.withCd_oscIdx (x : ClockDiscipline) : (s.withCd x).oscIdx = s.oscIdx := rfl
@[simp] theorem State.withCd_resp (x : ClockDiscipline) : (s.withCd x).resp = s.resp := rfl
@[simp] theorem State.withCd_events (x : ClockDiscipline) : (s.withCd x).events = s.events := rfl

/-! ## withSys -/

@[simp] theorem State.withSys_tb (x : Sequencing) : (s.withSys x).tb = s.tb := rfl
@[simp] theorem State.withSys_gd (x : Sequencing) : (s.withSys x).gd = s.gd := rfl
@[simp] theorem State.withSys_hm (x : Sequencing) : (s.withSys x).hm = s.hm := rfl
@[simp] theorem State.withSys_cd (x : Sequencing) : (s.withSys x).cd = s.cd := rfl
@[simp] theorem State.withSys_sys (x : Sequencing) : (s.withSys x).sys = x := rfl
@[simp] theorem State.withSys_cfg (x : Sequencing) : (s.withSys x).cfg = s.cfg := rfl
@[simp] theorem State.withSys_pb (x : Sequencing) : (s.withSys x).pb = s.pb := rfl
@[simp] theorem State.withSys_ph (x : Sequencing) : (s.withSys x).ph = s.ph := rfl
@[simp] theorem State.withSys_build (x : Sequencing) : (s.withSys x).build = s.build := rfl
@[simp] theorem State.withSys_cmdIndex (x : Sequencing) : (s.withSys x).cmdIndex = s.cmdIndex := rfl
@[simp] theorem State.withSys_pending (x : Sequencing) : (s.withSys x).pending = s.pending := rfl
@[simp] theorem State.withSys_env (x : Sequencing) : (s.withSys x).env = s.env := rfl
@[simp] theorem State.withSys_oscIdx (x : Sequencing) : (s.withSys x).oscIdx = s.oscIdx := rfl
@[simp] theorem State.withSys_resp (x : Sequencing) : (s.withSys x).resp = s.resp := rfl
@[simp] theorem State.withSys_events (x : Sequencing) : (s.withSys x).events = s.events := rfl

/-! ## withCfg -/

@[simp] theorem State.withCfg_tb (x : Configuration) : (s.withCfg x).tb = s.tb := rfl
@[simp] theorem State.withCfg_gd (x : Configuration) : (s.withCfg x).gd = s.gd := rfl
@[simp] theorem State.withCfg_hm (x : Configuration) : (s.withCfg x).hm = s.hm := rfl
@[simp] theorem State.withCfg_cd (x : Configuration) : (s.withCfg x).cd = s.cd := rfl
@[simp] theorem State.withCfg_sys (x : Configuration) : (s.withCfg x).sys = s.sys := rfl
@[simp] theorem State.withCfg_cfg (x : Configuration) : (s.withCfg x).cfg = x := rfl
@[simp] theorem State.withCfg_pb (x : Configuration) : (s.withCfg x).pb = s.pb := rfl
@[simp] theorem State.withCfg_ph (x : Configuration) : (s.withCfg x).ph = s.ph := rfl
@[simp] theorem State.withCfg_build (x : Configuration) : (s.withCfg x).build = s.build := rfl
@[simp] theorem State.withCfg_cmdIndex (x : Configuration) : (s.withCfg x).cmdIndex = s.cmdIndex := rfl
@[simp] theorem State.withCfg_pending (x : Configuration) : (s.withCfg x).pending = s.pending := rfl
@[simp] theorem State.withCfg_env (x : Configuration) : (s.withCfg x).env = s.env := rfl
@[simp] theorem State.withCfg_oscIdx (x : Configuration) : (s.withCfg x).oscIdx = s.oscIdx := rfl
@[simp] theorem State.withCfg_resp (x : Configuration) : (s.withCfg x).resp = s.resp := rfl
@[simp] theorem State.withCfg_events (x : Configuration) : (s.withCfg x).events = s.events := rfl

/-! ## writePb -/

@[simp] theorem State.writePb_tb (a : Nat) (v : Byte) : (s.writePb a v).tb = s.tb := rfl
@[simp] theorem State.writePb_gd (a : Nat) (v : Byte) : (s.writePb a v).gd = s.gd := rfl
@[simp] theorem State.writePb_hm (a : Nat) (v : Byte) : (s.writePb a v).hm = s.hm := rfl
@[simp] theorem State.writePb_cd (a : Nat) (v : Byte) : (s.writePb a v).cd = s.cd := rfl
@[simp] theorem State.writePb_sys (a : Nat) (v : Byte) : (s.writePb a v).sys = s.sys := rfl
@[simp] theorem State.writePb_cfg (a : Nat) (v : Byte) : (s.writePb a v).cfg = s.cfg := rfl
@[simp] theorem State.writePb_pb (a : Nat) (v : Byte) : (s.writePb a v).pb = Cells.write s.pb a v := rfl
@[simp] theorem State.writePb_ph (a : Nat) (v : Byte) : (s.writePb a v).ph = s.ph := rfl
@[simp] theorem State.writePb_build (a : Nat) (v : Byte) : (s.writePb a v).build = s.build := rfl
@[simp] theorem State.writePb_cmdIndex (a : Nat) (v : Byte) : (s.writePb a v).cmdIndex = s.cmdIndex := rfl
@[simp] theorem State.writePb_pending (a : Nat) (v : Byte) : (s.writePb a v).pending = s.pending := rfl
@[simp] theorem State.writePb_env (a : Nat) (v : Byte) : (s.writePb a v).env = s.env := rfl
@[simp] theorem State.writePb_oscIdx (a : Nat) (v : Byte) : (s.writePb a v).oscIdx = s.oscIdx := rfl
@[simp] theorem State.writePb_resp (a : Nat) (v : Byte) : (s.writePb a v).resp = s.resp := rfl
@[simp] theorem State.writePb_events (a : Nat) (v : Byte) : (s.writePb a v).events = s.events := rfl

/-! ## writePh -/

@[simp] theorem State.writePh_tb (i : Nat) (v : Word) : (s.writePh i v).tb = s.tb := rfl
@[simp] theorem State.writePh_gd (i : Nat) (v : Word) : (s.writePh i v).gd = s.gd := rfl
@[simp] theorem State.writePh_hm (i : Nat) (v : Word) : (s.writePh i v).hm = s.hm := rfl
@[simp] theorem State.writePh_cd (i : Nat) (v : Word) : (s.writePh i v).cd = s.cd := rfl
@[simp] theorem State.writePh_sys (i : Nat) (v : Word) : (s.writePh i v).sys = s.sys := rfl
@[simp] theorem State.writePh_cfg (i : Nat) (v : Word) : (s.writePh i v).cfg = s.cfg := rfl
@[simp] theorem State.writePh_pb (i : Nat) (v : Word) : (s.writePh i v).pb = s.pb := rfl
@[simp] theorem State.writePh_ph (i : Nat) (v : Word) : (s.writePh i v).ph = Cells.write s.ph i v := rfl
@[simp] theorem State.writePh_build (i : Nat) (v : Word) : (s.writePh i v).build = s.build := rfl
@[simp] theorem State.writePh_cmdIndex (i : Nat) (v : Word) : (s.writePh i v).cmdIndex = s.cmdIndex := rfl
@[simp] theorem State.writePh_pending (i : Nat) (v : Word) : (s.writePh i v).pending = s.pending := rfl
@[simp] theorem State.writePh_env (i : Nat) (v : Word) : (s.writePh i v).env = s.env := rfl
@[simp] theorem State.writePh_oscIdx (i : Nat) (v : Word) : (s.writePh i v).oscIdx = s.oscIdx := rfl
@[simp] theorem State.writePh_resp (i : Nat) (v : Word) : (s.writePh i v).resp = s.resp := rfl
@[simp] theorem State.writePh_events (i : Nat) (v : Word) : (s.writePh i v).events = s.events := rfl

/-! ## emit -/

@[simp] theorem State.emit_tb (e : Event) : (s.emit e).tb = s.tb := rfl
@[simp] theorem State.emit_gd (e : Event) : (s.emit e).gd = s.gd := rfl
@[simp] theorem State.emit_hm (e : Event) : (s.emit e).hm = s.hm := rfl
@[simp] theorem State.emit_cd (e : Event) : (s.emit e).cd = s.cd := rfl
@[simp] theorem State.emit_sys (e : Event) : (s.emit e).sys = s.sys := rfl
@[simp] theorem State.emit_cfg (e : Event) : (s.emit e).cfg = s.cfg := rfl
@[simp] theorem State.emit_pb (e : Event) : (s.emit e).pb = s.pb := rfl
@[simp] theorem State.emit_ph (e : Event) : (s.emit e).ph = s.ph := rfl
@[simp] theorem State.emit_build (e : Event) : (s.emit e).build = s.build := rfl
@[simp] theorem State.emit_cmdIndex (e : Event) : (s.emit e).cmdIndex = s.cmdIndex := rfl
@[simp] theorem State.emit_pending (e : Event) : (s.emit e).pending = s.pending := rfl
@[simp] theorem State.emit_env (e : Event) : (s.emit e).env = s.env := rfl
@[simp] theorem State.emit_oscIdx (e : Event) : (s.emit e).oscIdx = s.oscIdx := rfl
@[simp] theorem State.emit_resp (e : Event) : (s.emit e).resp = s.resp := rfl
@[simp] theorem State.emit_events (e : Event) : (s.emit e).events = s.events ++ [e] := rfl

/-! ## start -/

@[simp] theorem State.start_tb : (s.start).tb = s.tb := rfl
@[simp] theorem State.start_gd : (s.start).gd = s.gd := rfl
@[simp] theorem State.start_hm : (s.start).hm = s.hm := rfl
@[simp] theorem State.start_cd : (s.start).cd = s.cd := rfl
@[simp] theorem State.start_sys : (s.start).sys = s.sys := rfl
@[simp] theorem State.start_cfg : (s.start).cfg = s.cfg := rfl
@[simp] theorem State.start_pb : (s.start).pb = s.pb := rfl
@[simp] theorem State.start_ph : (s.start).ph = s.ph := rfl
@[simp] theorem State.start_build : (s.start).build = s.build := rfl
@[simp] theorem State.start_cmdIndex : (s.start).cmdIndex = s.cmdIndex := rfl
@[simp] theorem State.start_pending : (s.start).pending = s.pending := rfl
@[simp] theorem State.start_env : (s.start).env = s.env := rfl
@[simp] theorem State.start_oscIdx : (s.start).oscIdx = 0 := rfl
@[simp] theorem State.start_resp : (s.start).resp = ⟨.ok, 0, 0⟩ := rfl
@[simp] theorem State.start_events : (s.start).events = [] := rfl

/-! ## answer -/

@[simp] theorem State.answer_tb (r0 : Quad) (r1 : Word) : (s.answer r0 r1).tb = s.tb := rfl
@[simp] theorem State.answer_gd (r0 : Quad) (r1 : Word) : (s.answer r0 r1).gd = s.gd := rfl
@[simp] theorem State.answer_hm (r0 : Quad) (r1 : Word) : (s.answer r0 r1).hm = s.hm := rfl
@[simp] theorem State.answer_cd (r0 : Quad) (r1 : Word) : (s.answer r0 r1).cd = s.cd := rfl
@[simp] theorem State.answer_sys (r0 : Quad) (r1 : Word) : (s.answer r0 r1).sys = s.sys := rfl
@[simp] theorem State.answer_cfg (r0 : Quad) (r1 : Word) : (s.answer r0 r1).cfg = s.cfg := rfl
@[simp] theorem State.answer_pb (r0 : Quad) (r1 : Word) : (s.answer r0 r1).pb = s.pb := rfl
@[simp] theorem State.answer_ph (r0 : Quad) (r1 : Word) : (s.answer r0 r1).ph = s.ph := rfl
@[simp] theorem State.answer_build (r0 : Quad) (r1 : Word) : (s.answer r0 r1).build = s.build := rfl
@[simp] theorem State.answer_cmdIndex (r0 : Quad) (r1 : Word) : (s.answer r0 r1).cmdIndex = s.cmdIndex := rfl
@[simp] theorem State.answer_pending (r0 : Quad) (r1 : Word) : (s.answer r0 r1).pending = s.pending := rfl
@[simp] theorem State.answer_env (r0 : Quad) (r1 : Word) : (s.answer r0 r1).env = s.env := rfl
@[simp] theorem State.answer_oscIdx (r0 : Quad) (r1 : Word) : (s.answer r0 r1).oscIdx = s.oscIdx := rfl
@[simp] theorem State.answer_resp (r0 : Quad) (r1 : Word) : (s.answer r0 r1).resp = ⟨.ok, r0, r1⟩ := rfl
@[simp] theorem State.answer_events (r0 : Quad) (r1 : Word) : (s.answer r0 r1).events = s.events := rfl

/-! ## reject -/

@[simp] theorem State.reject_tb (st : Status) : (s.reject st).tb = s.tb := rfl
@[simp] theorem State.reject_gd (st : Status) : (s.reject st).gd = s.gd := rfl
@[simp] theorem State.reject_hm (st : Status) : (s.reject st).hm = s.hm := rfl
@[simp] theorem State.reject_cd (st : Status) : (s.reject st).cd = s.cd := rfl
@[simp] theorem State.reject_sys (st : Status) : (s.reject st).sys = s.sys := rfl
@[simp] theorem State.reject_cfg (st : Status) : (s.reject st).cfg = s.cfg := rfl
@[simp] theorem State.reject_pb (st : Status) : (s.reject st).pb = s.pb := rfl
@[simp] theorem State.reject_ph (st : Status) : (s.reject st).ph = s.ph := rfl
@[simp] theorem State.reject_build (st : Status) : (s.reject st).build = s.build := rfl
@[simp] theorem State.reject_cmdIndex (st : Status) : (s.reject st).cmdIndex = s.cmdIndex := rfl
@[simp] theorem State.reject_pending (st : Status) : (s.reject st).pending = s.pending := rfl
@[simp] theorem State.reject_env (st : Status) : (s.reject st).env = s.env := rfl
@[simp] theorem State.reject_oscIdx (st : Status) : (s.reject st).oscIdx = 0 := rfl
@[simp] theorem State.reject_resp (st : Status) : (s.reject st).resp = ⟨st, 0, 0⟩ := rfl
@[simp] theorem State.reject_events (st : Status) : (s.reject st).events = [] := rfl

/-! ## nextOscIdx -/

@[simp] theorem State.nextOscIdx_tb : (s.nextOscIdx).tb = s.tb := rfl
@[simp] theorem State.nextOscIdx_gd : (s.nextOscIdx).gd = s.gd := rfl
@[simp] theorem State.nextOscIdx_hm : (s.nextOscIdx).hm = s.hm := rfl
@[simp] theorem State.nextOscIdx_cd : (s.nextOscIdx).cd = s.cd := rfl
@[simp] theorem State.nextOscIdx_sys : (s.nextOscIdx).sys = s.sys := rfl
@[simp] theorem State.nextOscIdx_cfg : (s.nextOscIdx).cfg = s.cfg := rfl
@[simp] theorem State.nextOscIdx_pb : (s.nextOscIdx).pb = s.pb := rfl
@[simp] theorem State.nextOscIdx_ph : (s.nextOscIdx).ph = s.ph := rfl
@[simp] theorem State.nextOscIdx_build : (s.nextOscIdx).build = s.build := rfl
@[simp] theorem State.nextOscIdx_cmdIndex : (s.nextOscIdx).cmdIndex = s.cmdIndex := rfl
@[simp] theorem State.nextOscIdx_pending : (s.nextOscIdx).pending = s.pending := rfl
@[simp] theorem State.nextOscIdx_env : (s.nextOscIdx).env = s.env := rfl
@[simp] theorem State.nextOscIdx_oscIdx : (s.nextOscIdx).oscIdx = s.oscIdx + 1 := rfl
@[simp] theorem State.nextOscIdx_resp : (s.nextOscIdx).resp = s.resp := rfl
@[simp] theorem State.nextOscIdx_events : (s.nextOscIdx).events = s.events := rfl

/-! ## accept and present -/

@[simp] theorem State.accept_tb (q : Request) (rest : List Request) : (s.accept q rest).tb = s.tb := rfl
@[simp] theorem State.accept_gd (q : Request) (rest : List Request) : (s.accept q rest).gd = s.gd := rfl
@[simp] theorem State.accept_hm (q : Request) (rest : List Request) : (s.accept q rest).hm = s.hm := rfl
@[simp] theorem State.accept_cd (q : Request) (rest : List Request) : (s.accept q rest).cd = s.cd := rfl
@[simp] theorem State.accept_sys (q : Request) (rest : List Request) : (s.accept q rest).sys = s.sys := rfl
@[simp] theorem State.accept_cfg (q : Request) (rest : List Request) : (s.accept q rest).cfg = s.cfg := rfl
@[simp] theorem State.accept_pb (q : Request) (rest : List Request) : (s.accept q rest).pb = s.pb := rfl
@[simp] theorem State.accept_ph (q : Request) (rest : List Request) : (s.accept q rest).ph = s.ph := rfl
@[simp] theorem State.accept_build (q : Request) (rest : List Request) : (s.accept q rest).build = s.build := rfl
@[simp] theorem State.accept_cmdIndex (q : Request) (rest : List Request) : (s.accept q rest).cmdIndex = s.cmdIndex + 1 := rfl
@[simp] theorem State.accept_pending (q : Request) (rest : List Request) : (s.accept q rest).pending = rest := rfl
@[simp] theorem State.accept_env (q : Request) (rest : List Request) : (s.accept q rest).env = q.env := rfl
@[simp] theorem State.accept_oscIdx (q : Request) (rest : List Request) : (s.accept q rest).oscIdx = s.oscIdx := rfl
@[simp] theorem State.accept_resp (q : Request) (rest : List Request) : (s.accept q rest).resp = s.resp := rfl
@[simp] theorem State.accept_events (q : Request) (rest : List Request) : (s.accept q rest).events = s.events := rfl

@[simp] theorem State.present_tb (w : CmdWord) : (s.present w).tb = s.tb := rfl
@[simp] theorem State.present_gd (w : CmdWord) : (s.present w).gd = s.gd := rfl
@[simp] theorem State.present_hm (w : CmdWord) : (s.present w).hm = s.hm := rfl
@[simp] theorem State.present_cd (w : CmdWord) : (s.present w).cd = s.cd := rfl
@[simp] theorem State.present_sys (w : CmdWord) : (s.present w).sys = s.sys := rfl
@[simp] theorem State.present_cfg (w : CmdWord) : (s.present w).cfg = s.cfg := rfl
@[simp] theorem State.present_pb (w : CmdWord) : (s.present w).pb = s.pb := rfl
@[simp] theorem State.present_ph (w : CmdWord) : (s.present w).ph = s.ph := rfl
@[simp] theorem State.present_build (w : CmdWord) : (s.present w).build = s.build := rfl
@[simp] theorem State.present_cmdIndex (w : CmdWord) : (s.present w).cmdIndex = s.cmdIndex := rfl
@[simp] theorem State.present_pending (w : CmdWord) : (s.present w).pending = ⟨w, ⟨[], none⟩⟩ :: s.pending := rfl
@[simp] theorem State.present_env (w : CmdWord) : (s.present w).env = s.env := rfl
@[simp] theorem State.present_oscIdx (w : CmdWord) : (s.present w).oscIdx = s.oscIdx := rfl
@[simp] theorem State.present_resp (w : CmdWord) : (s.present w).resp = s.resp := rfl
@[simp] theorem State.present_events (w : CmdWord) : (s.present w).events = s.events := rfl

end Sys2Proof.Machine
end

