-- ==== Sys2Proof/Laws/Frames.lean ====
section
/-! SUPPORT. What each operation leaves alone: one lemma for each operation, a conjunction over the fields of State that
it keeps (simp uses each part). -/

namespace Sys2Proof.Machine

variable (s : State)

@[simp] theorem tbSetDate_keeps (week tow : Nat) (off : Int) :
    (tbSetDate week tow off s).gd = s.gd ∧ (tbSetDate week tow off s).hm = s.hm ∧
    (tbSetDate week tow off s).cd = s.cd ∧ (tbSetDate week tow off s).sys = s.sys ∧
    (tbSetDate week tow off s).cfg = s.cfg ∧ (tbSetDate week tow off s).pb = s.pb ∧
    (tbSetDate week tow off s).ph = s.ph ∧ (tbSetDate week tow off s).build = s.build ∧
    (tbSetDate week tow off s).cmdIndex = s.cmdIndex ∧ (tbSetDate week tow off s).pending = s.pending ∧
    (tbSetDate week tow off s).env = s.env ∧ (tbSetDate week tow off s).oscIdx = s.oscIdx ∧
    (tbSetDate week tow off s).resp = s.resp ∧ (tbSetDate week tow off s).events = s.events := by
  unfold tbSetDate
  dsimp only
  (repeat' split) <;> simp

@[simp] theorem tbAdvance_keeps :
    (tbAdvance s).gd = s.gd ∧ (tbAdvance s).hm = s.hm ∧ (tbAdvance s).cd = s.cd ∧ (tbAdvance s).sys = s.sys ∧
    (tbAdvance s).cfg = s.cfg ∧ (tbAdvance s).pb = s.pb ∧ (tbAdvance s).ph = s.ph ∧ (tbAdvance s).build = s.build ∧
    (tbAdvance s).cmdIndex = s.cmdIndex ∧ (tbAdvance s).pending = s.pending ∧ (tbAdvance s).env = s.env ∧
    (tbAdvance s).oscIdx = s.oscIdx ∧ (tbAdvance s).resp = s.resp ∧ (tbAdvance s).events = s.events := by
  unfold tbAdvance
  dsimp only
  split <;> simp

@[simp] theorem cdCommand_keeps (rate : Int) :
    ((cdCommand rate s).1).tb = s.tb ∧ ((cdCommand rate s).1).gd = s.gd ∧ ((cdCommand rate s).1).hm = s.hm ∧
    ((cdCommand rate s).1).sys = s.sys ∧ ((cdCommand rate s).1).cfg = s.cfg ∧ ((cdCommand rate s).1).pb = s.pb ∧
    ((cdCommand rate s).1).ph = s.ph ∧ ((cdCommand rate s).1).build = s.build ∧
    ((cdCommand rate s).1).cmdIndex = s.cmdIndex ∧ ((cdCommand rate s).1).pending = s.pending ∧
    ((cdCommand rate s).1).env = s.env ∧ ((cdCommand rate s).1).resp = s.resp :=
  ⟨rfl, rfl, rfl, rfl, rfl, rfl, rfl, rfl, rfl, rfl, rfl, rfl⟩

@[simp] theorem disciplineReset_keeps (kind : ResetKind) :
    (disciplineReset kind s).tb = s.tb ∧ (disciplineReset kind s).gd = s.gd ∧ (disciplineReset kind s).hm = s.hm ∧
    (disciplineReset kind s).sys = s.sys ∧ (disciplineReset kind s).cfg = s.cfg ∧
    (disciplineReset kind s).pb = s.pb ∧ (disciplineReset kind s).ph = s.ph ∧
    (disciplineReset kind s).build = s.build ∧ (disciplineReset kind s).cmdIndex = s.cmdIndex ∧
    (disciplineReset kind s).pending = s.pending ∧ (disciplineReset kind s).env = s.env ∧
    (disciplineReset kind s).oscIdx = s.oscIdx ∧ (disciplineReset kind s).resp = s.resp ∧
    (disciplineReset kind s).events = s.events :=
  ⟨rfl, rfl, rfl, rfl, rfl, rfl, rfl, rfl, rfl, rfl, rfl, rfl, rfl, rfl⟩

@[simp] theorem cdEnterHoldover_keeps :
    (cdEnterHoldover s).tb = s.tb ∧ (cdEnterHoldover s).gd = s.gd ∧ (cdEnterHoldover s).hm = s.hm ∧
    (cdEnterHoldover s).sys = s.sys ∧ (cdEnterHoldover s).cfg = s.cfg ∧ (cdEnterHoldover s).pb = s.pb ∧
    (cdEnterHoldover s).ph = s.ph ∧ (cdEnterHoldover s).build = s.build ∧
    (cdEnterHoldover s).cmdIndex = s.cmdIndex ∧ (cdEnterHoldover s).pending = s.pending ∧
    (cdEnterHoldover s).env = s.env ∧ (cdEnterHoldover s).resp = s.resp := by
  simp [cdEnterHoldover]

@[simp] theorem cdLeaveHoldover_keeps (d : Nat) :
    (cdLeaveHoldover d s).tb = s.tb ∧ (cdLeaveHoldover d s).gd = s.gd ∧ (cdLeaveHoldover d s).hm = s.hm ∧
    (cdLeaveHoldover d s).sys = s.sys ∧ (cdLeaveHoldover d s).cfg = s.cfg ∧ (cdLeaveHoldover d s).pb = s.pb ∧
    (cdLeaveHoldover d s).ph = s.ph ∧ (cdLeaveHoldover d s).build = s.build ∧
    (cdLeaveHoldover d s).cmdIndex = s.cmdIndex ∧ (cdLeaveHoldover d s).pending = s.pending ∧
    (cdLeaveHoldover d s).env = s.env ∧ (cdLeaveHoldover d s).oscIdx = s.oscIdx ∧
    (cdLeaveHoldover d s).resp = s.resp ∧ (cdLeaveHoldover d s).events = s.events :=
  ⟨rfl, rfl, rfl, rfl, rfl, rfl, rfl, rfl, rfl, rfl, rfl, rfl, rfl, rfl⟩

@[simp] theorem enterOk_keeps (before : SystemStatus) :
    (enterOk before s).tb = s.tb ∧ (enterOk before s).gd = s.gd ∧ (enterOk before s).sys = s.sys ∧
    (enterOk before s).cfg = s.cfg ∧ (enterOk before s).pb = s.pb ∧ (enterOk before s).ph = s.ph ∧
    (enterOk before s).build = s.build ∧ (enterOk before s).cmdIndex = s.cmdIndex ∧
    (enterOk before s).pending = s.pending ∧ (enterOk before s).env = s.env ∧
    (enterOk before s).oscIdx = s.oscIdx ∧ (enterOk before s).resp = s.resp := by
  cases before <;> simp [enterOk]

@[simp] theorem enterHoldoverSide_keeps :
    (enterHoldoverSide s).tb = s.tb ∧ (enterHoldoverSide s).gd = s.gd ∧ (enterHoldoverSide s).sys = s.sys ∧
    (enterHoldoverSide s).cfg = s.cfg ∧ (enterHoldoverSide s).pb = s.pb ∧ (enterHoldoverSide s).ph = s.ph ∧
    (enterHoldoverSide s).build = s.build ∧ (enterHoldoverSide s).cmdIndex = s.cmdIndex ∧
    (enterHoldoverSide s).pending = s.pending ∧ (enterHoldoverSide s).env = s.env ∧
    (enterHoldoverSide s).resp = s.resp := by
  simp [enterHoldoverSide]

@[simp] theorem enterUnlock_keeps :
    (enterUnlock s).tb = s.tb ∧ (enterUnlock s).gd = s.gd ∧ (enterUnlock s).cd = s.cd ∧
    (enterUnlock s).sys = s.sys ∧ (enterUnlock s).cfg = s.cfg ∧ (enterUnlock s).pb = s.pb ∧
    (enterUnlock s).ph = s.ph ∧ (enterUnlock s).build = s.build ∧ (enterUnlock s).cmdIndex = s.cmdIndex ∧
    (enterUnlock s).pending = s.pending ∧ (enterUnlock s).env = s.env ∧ (enterUnlock s).oscIdx = s.oscIdx ∧
    (enterUnlock s).resp = s.resp :=
  ⟨rfl, rfl, rfl, rfl, rfl, rfl, rfl, rfl, rfl, rfl, rfl, rfl, rfl⟩

@[simp] theorem hmUpdate_keeps :
    (hmUpdate s).tb = s.tb ∧ (hmUpdate s).gd = s.gd ∧ (hmUpdate s).sys = s.sys ∧ (hmUpdate s).cfg = s.cfg ∧
    (hmUpdate s).pb = s.pb ∧ (hmUpdate s).ph = s.ph ∧ (hmUpdate s).build = s.build ∧
    (hmUpdate s).cmdIndex = s.cmdIndex ∧ (hmUpdate s).pending = s.pending ∧ (hmUpdate s).env = s.env ∧
    (hmUpdate s).resp = s.resp := by
  unfold hmUpdate
  dsimp only
  (repeat' split) <;> simp

@[simp] theorem setOscStatus_keeps (x : SubStatus) :
    (setOscStatus x s).tb = s.tb ∧ (setOscStatus x s).gd = s.gd ∧ (setOscStatus x s).sys = s.sys ∧
    (setOscStatus x s).cfg = s.cfg ∧ (setOscStatus x s).pb = s.pb ∧ (setOscStatus x s).ph = s.ph ∧
    (setOscStatus x s).build = s.build ∧ (setOscStatus x s).cmdIndex = s.cmdIndex ∧
    (setOscStatus x s).pending = s.pending ∧ (setOscStatus x s).env = s.env ∧ (setOscStatus x s).resp = s.resp := by
  simp [setOscStatus]

@[simp] theorem setGpsStatus_keeps (x : SubStatus) :
    (setGpsStatus x s).tb = s.tb ∧ (setGpsStatus x s).gd = s.gd ∧ (setGpsStatus x s).sys = s.sys ∧
    (setGpsStatus x s).cfg = s.cfg ∧ (setGpsStatus x s).pb = s.pb ∧ (setGpsStatus x s).ph = s.ph ∧
    (setGpsStatus x s).build = s.build ∧ (setGpsStatus x s).cmdIndex = s.cmdIndex ∧
    (setGpsStatus x s).pending = s.pending ∧ (setGpsStatus x s).env = s.env ∧ (setGpsStatus x s).resp = s.resp := by
  simp [setGpsStatus]

@[simp] theorem setPllStatus_keeps (x : SubStatus) :
    (setPllStatus x s).tb = s.tb ∧ (setPllStatus x s).gd = s.gd ∧ (setPllStatus x s).sys = s.sys ∧
    (setPllStatus x s).cfg = s.cfg ∧ (setPllStatus x s).pb = s.pb ∧ (setPllStatus x s).ph = s.ph ∧
    (setPllStatus x s).build = s.build ∧ (setPllStatus x s).cmdIndex = s.cmdIndex ∧
    (setPllStatus x s).pending = s.pending ∧ (setPllStatus x s).env = s.env ∧ (setPllStatus x s).resp = s.resp := by
  simp [setPllStatus]

@[simp] theorem setFllStatus_keeps (x : SubStatus) :
    (setFllStatus x s).tb = s.tb ∧ (setFllStatus x s).gd = s.gd ∧ (setFllStatus x s).sys = s.sys ∧
    (setFllStatus x s).cfg = s.cfg ∧ (setFllStatus x s).pb = s.pb ∧ (setFllStatus x s).ph = s.ph ∧
    (setFllStatus x s).build = s.build ∧ (setFllStatus x s).cmdIndex = s.cmdIndex ∧
    (setFllStatus x s).pending = s.pending ∧ (setFllStatus x s).env = s.env ∧ (setFllStatus x s).resp = s.resp := by
  simp [setFllStatus]

@[simp] theorem resetGpsWatchdog_keeps :
    (resetGpsWatchdog s).tb = s.tb ∧ (resetGpsWatchdog s).gd = s.gd ∧ (resetGpsWatchdog s).cd = s.cd ∧
    (resetGpsWatchdog s).sys = s.sys ∧ (resetGpsWatchdog s).cfg = s.cfg ∧ (resetGpsWatchdog s).pb = s.pb ∧
    (resetGpsWatchdog s).ph = s.ph ∧ (resetGpsWatchdog s).build = s.build ∧
    (resetGpsWatchdog s).cmdIndex = s.cmdIndex ∧ (resetGpsWatchdog s).pending = s.pending ∧
    (resetGpsWatchdog s).env = s.env ∧ (resetGpsWatchdog s).oscIdx = s.oscIdx ∧
    (resetGpsWatchdog s).resp = s.resp ∧ (resetGpsWatchdog s).events = s.events :=
  ⟨rfl, rfl, rfl, rfl, rfl, rfl, rfl, rfl, rfl, rfl, rfl, rfl, rfl, rfl⟩

@[simp] theorem resetFllWatchdog_keeps :
    (resetFllWatchdog s).tb = s.tb ∧ (resetFllWatchdog s).gd = s.gd ∧ (resetFllWatchdog s).cd = s.cd ∧
    (resetFllWatchdog s).sys = s.sys ∧ (resetFllWatchdog s).cfg = s.cfg ∧ (resetFllWatchdog s).pb = s.pb ∧
    (resetFllWatchdog s).ph = s.ph ∧ (resetFllWatchdog s).build = s.build ∧
    (resetFllWatchdog s).cmdIndex = s.cmdIndex ∧ (resetFllWatchdog s).pending = s.pending ∧
    (resetFllWatchdog s).env = s.env ∧ (resetFllWatchdog s).oscIdx = s.oscIdx ∧
    (resetFllWatchdog s).resp = s.resp ∧ (resetFllWatchdog s).events = s.events :=
  ⟨rfl, rfl, rfl, rfl, rfl, rfl, rfl, rfl, rfl, rfl, rfl, rfl, rfl, rfl⟩

@[simp] theorem hmAge_keeps :
    (hmAge s).tb = s.tb ∧ (hmAge s).gd = s.gd ∧ (hmAge s).sys = s.sys ∧ (hmAge s).cfg = s.cfg ∧
    (hmAge s).pb = s.pb ∧ (hmAge s).ph = s.ph ∧ (hmAge s).build = s.build ∧ (hmAge s).cmdIndex = s.cmdIndex ∧
    (hmAge s).pending = s.pending ∧ (hmAge s).env = s.env ∧ (hmAge s).resp = s.resp := by
  simp [hmAge]

@[simp] theorem countSkipped_keeps :
    (countSkipped s).tb = s.tb ∧ (countSkipped s).gd = s.gd ∧ (countSkipped s).hm = s.hm ∧
    (countSkipped s).sys = s.sys ∧ (countSkipped s).cfg = s.cfg ∧ (countSkipped s).pb = s.pb ∧
    (countSkipped s).ph = s.ph ∧ (countSkipped s).build = s.build ∧ (countSkipped s).cmdIndex = s.cmdIndex ∧
    (countSkipped s).pending = s.pending ∧ (countSkipped s).env = s.env ∧ (countSkipped s).oscIdx = s.oscIdx ∧
    (countSkipped s).resp = s.resp ∧ (countSkipped s).events = s.events :=
  ⟨rfl, rfl, rfl, rfl, rfl, rfl, rfl, rfl, rfl, rfl, rfl, rfl, rfl, rfl⟩

@[simp] theorem jumpFilter_keeps (p : Int) :
    ((jumpFilter p s).1).tb = s.tb ∧ ((jumpFilter p s).1).gd = s.gd ∧ ((jumpFilter p s).1).hm = s.hm ∧
    ((jumpFilter p s).1).sys = s.sys ∧ ((jumpFilter p s).1).cfg = s.cfg ∧ ((jumpFilter p s).1).pb = s.pb ∧
    ((jumpFilter p s).1).ph = s.ph ∧ ((jumpFilter p s).1).build = s.build ∧
    ((jumpFilter p s).1).cmdIndex = s.cmdIndex ∧ ((jumpFilter p s).1).pending = s.pending ∧
    ((jumpFilter p s).1).env = s.env ∧ ((jumpFilter p s).1).oscIdx = s.oscIdx ∧
    ((jumpFilter p s).1).resp = s.resp ∧ ((jumpFilter p s).1).events = s.events := by
  unfold jumpFilter
  (repeat' split) <;> simp

@[simp] theorem resync_keeps :
    (resync s).tb = s.tb ∧ (resync s).gd = s.gd ∧ (resync s).sys = s.sys ∧ (resync s).cfg = s.cfg ∧
    (resync s).pb = s.pb ∧ (resync s).ph = s.ph ∧ (resync s).build = s.build ∧ (resync s).cmdIndex = s.cmdIndex ∧
    (resync s).pending = s.pending ∧ (resync s).env = s.env ∧ (resync s).resp = s.resp := by
  simp [resync]

@[simp] theorem lowPass_keeps (p : Int) :
    ((lowPass p s).1).tb = s.tb ∧ ((lowPass p s).1).gd = s.gd ∧ ((lowPass p s).1).hm = s.hm ∧
    ((lowPass p s).1).sys = s.sys ∧ ((lowPass p s).1).cfg = s.cfg ∧ ((lowPass p s).1).pb = s.pb ∧
    ((lowPass p s).1).ph = s.ph ∧ ((lowPass p s).1).build = s.build ∧ ((lowPass p s).1).cmdIndex = s.cmdIndex ∧
    ((lowPass p s).1).pending = s.pending ∧ ((lowPass p s).1).env = s.env ∧ ((lowPass p s).1).oscIdx = s.oscIdx ∧
    ((lowPass p s).1).resp = s.resp ∧ ((lowPass p s).1).events = s.events :=
  ⟨rfl, rfl, rfl, rfl, rfl, rfl, rfl, rfl, rfl, rfl, rfl, rfl, rfl, rfl⟩

@[simp] theorem pllSlew_keeps (f : Int) :
    ((pllSlew f s).1).tb = s.tb ∧ ((pllSlew f s).1).gd = s.gd ∧ ((pllSlew f s).1).hm = s.hm ∧
    ((pllSlew f s).1).sys = s.sys ∧ ((pllSlew f s).1).cfg = s.cfg ∧ ((pllSlew f s).1).pb = s.pb ∧
    ((pllSlew f s).1).ph = s.ph ∧ ((pllSlew f s).1).build = s.build ∧ ((pllSlew f s).1).cmdIndex = s.cmdIndex ∧
    ((pllSlew f s).1).pending = s.pending ∧ ((pllSlew f s).1).env = s.env ∧ ((pllSlew f s).1).oscIdx = s.oscIdx ∧
    ((pllSlew f s).1).resp = s.resp ∧ ((pllSlew f s).1).events = s.events :=
  ⟨rfl, rfl, rfl, rfl, rfl, rfl, rfl, rfl, rfl, rfl, rfl, rfl, rfl, rfl⟩

@[simp] theorem fllUpdate_keeps (p : Int) :
    (fllUpdate p s).tb = s.tb ∧ (fllUpdate p s).gd = s.gd ∧ (fllUpdate p s).hm = s.hm ∧
    (fllUpdate p s).sys = s.sys ∧ (fllUpdate p s).cfg = s.cfg ∧ (fllUpdate p s).pb = s.pb ∧
    (fllUpdate p s).ph = s.ph ∧ (fllUpdate p s).build = s.build ∧ (fllUpdate p s).cmdIndex = s.cmdIndex ∧
    (fllUpdate p s).pending = s.pending ∧ (fllUpdate p s).env = s.env ∧ (fllUpdate p s).oscIdx = s.oscIdx ∧
    (fllUpdate p s).resp = s.resp ∧ (fllUpdate p s).events = s.events :=
  ⟨rfl, rfl, rfl, rfl, rfl, rfl, rfl, rfl, rfl, rfl, rfl, rfl, rfl, rfl⟩

@[simp] theorem pllFeedback_keeps (slew realized dither : Int) :
    (pllFeedback slew realized dither s).tb = s.tb ∧ (pllFeedback slew realized dither s).gd = s.gd ∧
    (pllFeedback slew realized dither s).hm = s.hm ∧ (pllFeedback slew realized dither s).sys = s.sys ∧
    (pllFeedback slew realized dither s).cfg = s.cfg ∧ (pllFeedback slew realized dither s).pb = s.pb ∧
    (pllFeedback slew realized dither s).ph = s.ph ∧ (pllFeedback slew realized dither s).build = s.build ∧
    (pllFeedback slew realized dither s).cmdIndex = s.cmdIndex ∧
    (pllFeedback slew realized dither s).pending = s.pending ∧ (pllFeedback slew realized dither s).env = s.env ∧
    (pllFeedback slew realized dither s).oscIdx = s.oscIdx ∧ (pllFeedback slew realized dither s).resp = s.resp ∧
    (pllFeedback slew realized dither s).events = s.events :=
  ⟨rfl, rfl, rfl, rfl, rfl, rfl, rfl, rfl, rfl, rfl, rfl, rfl, rfl, rfl⟩

@[simp] theorem pllRampStep_keeps (f : Int) :
    (pllRampStep f s).tb = s.tb ∧ (pllRampStep f s).gd = s.gd ∧ (pllRampStep f s).hm = s.hm ∧
    (pllRampStep f s).sys = s.sys ∧ (pllRampStep f s).cfg = s.cfg ∧ (pllRampStep f s).pb = s.pb ∧
    (pllRampStep f s).ph = s.ph ∧ (pllRampStep f s).build = s.build ∧ (pllRampStep f s).cmdIndex = s.cmdIndex ∧
    (pllRampStep f s).pending = s.pending ∧ (pllRampStep f s).env = s.env ∧ (pllRampStep f s).oscIdx = s.oscIdx ∧
    (pllRampStep f s).resp = s.resp ∧ (pllRampStep f s).events = s.events := by
  unfold pllRampStep
  dsimp only
  (repeat' split) <;> simp

@[simp] theorem fllRampStep_keeps (active : Bool) :
    (fllRampStep active s).tb = s.tb ∧ (fllRampStep active s).gd = s.gd ∧ (fllRampStep active s).hm = s.hm ∧
    (fllRampStep active s).sys = s.sys ∧ (fllRampStep active s).cfg = s.cfg ∧ (fllRampStep active s).pb = s.pb ∧
    (fllRampStep active s).ph = s.ph ∧ (fllRampStep active s).build = s.build ∧
    (fllRampStep active s).cmdIndex = s.cmdIndex ∧ (fllRampStep active s).pending = s.pending ∧
    (fllRampStep active s).env = s.env ∧ (fllRampStep active s).oscIdx = s.oscIdx ∧
    (fllRampStep active s).resp = s.resp ∧ (fllRampStep active s).events = s.events := by
  unfold fllRampStep
  dsimp only
  (repeat' split) <;> simp

@[simp] theorem ramps_keeps (f : Int) (active : Bool) :
    (ramps f active s).tb = s.tb ∧ (ramps f active s).gd = s.gd ∧ (ramps f active s).hm = s.hm ∧
    (ramps f active s).sys = s.sys ∧ (ramps f active s).cfg = s.cfg ∧ (ramps f active s).pb = s.pb ∧
    (ramps f active s).ph = s.ph ∧ (ramps f active s).build = s.build ∧ (ramps f active s).cmdIndex = s.cmdIndex ∧
    (ramps f active s).pending = s.pending ∧ (ramps f active s).env = s.env ∧
    (ramps f active s).oscIdx = s.oscIdx ∧ (ramps f active s).resp = s.resp ∧ (ramps f active s).events = s.events := by
  simp [ramps]

@[simp] theorem State.pushPh_keeps (v : Word) :
    (s.pushPh v).tb = s.tb ∧ (s.pushPh v).gd = s.gd ∧ (s.pushPh v).hm = s.hm ∧ (s.pushPh v).sys = s.sys ∧
    (s.pushPh v).cfg = s.cfg ∧ (s.pushPh v).pb = s.pb ∧ (s.pushPh v).build = s.build ∧
    (s.pushPh v).cmdIndex = s.cmdIndex ∧ (s.pushPh v).pending = s.pending ∧ (s.pushPh v).env = s.env ∧
    (s.pushPh v).oscIdx = s.oscIdx ∧ (s.pushPh v).resp = s.resp ∧ (s.pushPh v).events = s.events :=
  ⟨rfl, rfl, rfl, rfl, rfl, rfl, rfl, rfl, rfl, rfl, rfl, rfl, rfl⟩

@[simp] theorem bookkeeping_keeps (p f dither : Int) :
    (bookkeeping p f dither s).tb = s.tb ∧ (bookkeeping p f dither s).gd = s.gd ∧
    (bookkeeping p f dither s).hm = s.hm ∧ (bookkeeping p f dither s).sys = s.sys ∧
    (bookkeeping p f dither s).cfg = s.cfg ∧ (bookkeeping p f dither s).pb = s.pb ∧
    (bookkeeping p f dither s).build = s.build ∧ (bookkeeping p f dither s).cmdIndex = s.cmdIndex ∧
    (bookkeeping p f dither s).pending = s.pending ∧ (bookkeeping p f dither s).env = s.env ∧
    (bookkeeping p f dither s).oscIdx = s.oscIdx ∧ (bookkeeping p f dither s).resp = s.resp ∧
    (bookkeeping p f dither s).events = s.events :=
  ⟨rfl, rfl, rfl, rfl, rfl, rfl, rfl, rfl, rfl, rfl, rfl, rfl, rfl⟩

@[simp] theorem lockEvaluation_keeps (f : Int) :
    (lockEvaluation f s).tb = s.tb ∧ (lockEvaluation f s).gd = s.gd ∧ (lockEvaluation f s).sys = s.sys ∧
    (lockEvaluation f s).cfg = s.cfg ∧ (lockEvaluation f s).pb = s.pb ∧ (lockEvaluation f s).ph = s.ph ∧
    (lockEvaluation f s).build = s.build ∧ (lockEvaluation f s).cmdIndex = s.cmdIndex ∧
    (lockEvaluation f s).pending = s.pending ∧ (lockEvaluation f s).env = s.env ∧ (lockEvaluation f s).resp = s.resp := by
  unfold lockEvaluation
  dsimp only
  split <;> simp

@[simp] theorem steer_keeps (p : Int) :
    (steer p s).tb = s.tb ∧ (steer p s).gd = s.gd ∧ (steer p s).sys = s.sys ∧ (steer p s).cfg = s.cfg ∧
    (steer p s).pb = s.pb ∧ (steer p s).build = s.build ∧ (steer p s).cmdIndex = s.cmdIndex ∧
    (steer p s).pending = s.pending ∧ (steer p s).env = s.env ∧ (steer p s).resp = s.resp := by
  unfold steer
  dsimp only
  split <;> simp

@[simp] theorem blockReset_keeps :
    (blockReset s).build = s.build ∧ (blockReset s).cmdIndex = s.cmdIndex ∧ (blockReset s).pending = s.pending ∧
    (blockReset s).env = s.env ∧ (blockReset s).oscIdx = s.oscIdx ∧ (blockReset s).resp = s.resp ∧
    (blockReset s).events = s.events := by
  simp [blockReset, State.powerOn]

@[simp] theorem sirfPpsTime_keeps :
    (sirfPpsTime s).tb = s.tb ∧ (sirfPpsTime s).hm = s.hm ∧ (sirfPpsTime s).cd = s.cd ∧
    (sirfPpsTime s).sys = s.sys ∧ (sirfPpsTime s).cfg = s.cfg ∧ (sirfPpsTime s).pb = s.pb ∧
    (sirfPpsTime s).ph = s.ph ∧ (sirfPpsTime s).build = s.build ∧ (sirfPpsTime s).cmdIndex = s.cmdIndex ∧
    (sirfPpsTime s).pending = s.pending ∧ (sirfPpsTime s).env = s.env ∧ (sirfPpsTime s).oscIdx = s.oscIdx ∧
    (sirfPpsTime s).resp = s.resp ∧ (sirfPpsTime s).events = s.events :=
  ⟨rfl, rfl, rfl, rfl, rfl, rfl, rfl, rfl, rfl, rfl, rfl, rfl, rfl, rfl⟩

@[simp] theorem tsipSupplementalTiming_keeps :
    (tsipSupplementalTiming s).tb = s.tb ∧ (tsipSupplementalTiming s).hm = s.hm ∧
    (tsipSupplementalTiming s).cd = s.cd ∧ (tsipSupplementalTiming s).sys = s.sys ∧
    (tsipSupplementalTiming s).cfg = s.cfg ∧ (tsipSupplementalTiming s).pb = s.pb ∧
    (tsipSupplementalTiming s).ph = s.ph ∧ (tsipSupplementalTiming s).build = s.build ∧
    (tsipSupplementalTiming s).cmdIndex = s.cmdIndex ∧ (tsipSupplementalTiming s).pending = s.pending ∧
    (tsipSupplementalTiming s).env = s.env ∧ (tsipSupplementalTiming s).oscIdx = s.oscIdx ∧
    (tsipSupplementalTiming s).resp = s.resp ∧ (tsipSupplementalTiming s).events = s.events :=
  ⟨rfl, rfl, rfl, rfl, rfl, rfl, rfl, rfl, rfl, rfl, rfl, rfl, rfl, rfl⟩

@[simp] theorem ubxNavStatus_keeps :
    (ubxNavStatus s).tb = s.tb ∧ (ubxNavStatus s).hm = s.hm ∧ (ubxNavStatus s).cd = s.cd ∧
    (ubxNavStatus s).sys = s.sys ∧ (ubxNavStatus s).cfg = s.cfg ∧ (ubxNavStatus s).pb = s.pb ∧
    (ubxNavStatus s).ph = s.ph ∧ (ubxNavStatus s).build = s.build ∧ (ubxNavStatus s).cmdIndex = s.cmdIndex ∧
    (ubxNavStatus s).pending = s.pending ∧ (ubxNavStatus s).env = s.env ∧ (ubxNavStatus s).oscIdx = s.oscIdx ∧
    (ubxNavStatus s).resp = s.resp ∧ (ubxNavStatus s).events = s.events :=
  ⟨rfl, rfl, rfl, rfl, rfl, rfl, rfl, rfl, rfl, rfl, rfl, rfl, rfl, rfl⟩

@[simp] theorem ubxSurveyIn_keeps :
    (ubxSurveyIn s).tb = s.tb ∧ (ubxSurveyIn s).hm = s.hm ∧ (ubxSurveyIn s).cd = s.cd ∧
    (ubxSurveyIn s).sys = s.sys ∧ (ubxSurveyIn s).cfg = s.cfg ∧ (ubxSurveyIn s).pb = s.pb ∧
    (ubxSurveyIn s).ph = s.ph ∧ (ubxSurveyIn s).build = s.build ∧ (ubxSurveyIn s).cmdIndex = s.cmdIndex ∧
    (ubxSurveyIn s).pending = s.pending ∧ (ubxSurveyIn s).env = s.env ∧ (ubxSurveyIn s).oscIdx = s.oscIdx ∧
    (ubxSurveyIn s).resp = s.resp ∧ (ubxSurveyIn s).events = s.events :=
  ⟨rfl, rfl, rfl, rfl, rfl, rfl, rfl, rfl, rfl, rfl, rfl, rfl, rfl, rfl⟩

@[simp] theorem interpret_keeps (n : Nat) :
    ((interpret n s).1).tb = s.tb ∧ ((interpret n s).1).hm = s.hm ∧ ((interpret n s).1).cd = s.cd ∧
    ((interpret n s).1).sys = s.sys ∧ ((interpret n s).1).cfg = s.cfg ∧ ((interpret n s).1).pb = s.pb ∧
    ((interpret n s).1).ph = s.ph ∧ ((interpret n s).1).build = s.build ∧
    ((interpret n s).1).cmdIndex = s.cmdIndex ∧ ((interpret n s).1).pending = s.pending ∧
    ((interpret n s).1).env = s.env ∧ ((interpret n s).1).oscIdx = s.oscIdx ∧ ((interpret n s).1).resp = s.resp ∧
    ((interpret n s).1).events = s.events := by
  unfold interpret interpretSirf interpretTsip interpretUbx
  (repeat' split) <;> simp

@[simp] theorem foldTiming_keeps (week tow : Nat) (off : Int) (valid : Bool) :
    (foldTiming week tow off valid s).sys = s.sys ∧ (foldTiming week tow off valid s).cfg = s.cfg ∧
    (foldTiming week tow off valid s).pb = s.pb ∧ (foldTiming week tow off valid s).ph = s.ph ∧
    (foldTiming week tow off valid s).build = s.build ∧ (foldTiming week tow off valid s).cmdIndex = s.cmdIndex ∧
    (foldTiming week tow off valid s).pending = s.pending ∧ (foldTiming week tow off valid s).env = s.env ∧
    (foldTiming week tow off valid s).resp = s.resp := by
  unfold foldTiming
  dsimp only
  split <;> simp

@[simp] theorem dispatch_keeps (n : Nat) :
    ((dispatch n s).1).sys = s.sys ∧ ((dispatch n s).1).cfg = s.cfg ∧ ((dispatch n s).1).pb = s.pb ∧
    ((dispatch n s).1).ph = s.ph ∧ ((dispatch n s).1).build = s.build ∧ ((dispatch n s).1).cmdIndex = s.cmdIndex ∧
    ((dispatch n s).1).pending = s.pending ∧ ((dispatch n s).1).env = s.env ∧ ((dispatch n s).1).resp = s.resp := by
  unfold dispatch
  dsimp only
  split <;> simp

@[simp] theorem State.setFraming_keeps (code : Byte) :
    (s.setFraming code).tb = s.tb ∧ (s.setFraming code).hm = s.hm ∧ (s.setFraming code).cd = s.cd ∧
    (s.setFraming code).sys = s.sys ∧ (s.setFraming code).cfg = s.cfg ∧ (s.setFraming code).pb = s.pb ∧
    (s.setFraming code).ph = s.ph ∧ (s.setFraming code).build = s.build ∧
    (s.setFraming code).cmdIndex = s.cmdIndex ∧ (s.setFraming code).pending = s.pending ∧
    (s.setFraming code).env = s.env ∧ (s.setFraming code).oscIdx = s.oscIdx ∧ (s.setFraming code).resp = s.resp ∧
    (s.setFraming code).events = s.events :=
  ⟨rfl, rfl, rfl, rfl, rfl, rfl, rfl, rfl, rfl, rfl, rfl, rfl, rfl, rfl⟩

@[simp] theorem countGarbage_keeps (k : Nat) :
    (countGarbage k s).tb = s.tb ∧ (countGarbage k s).hm = s.hm ∧ (countGarbage k s).cd = s.cd ∧
    (countGarbage k s).sys = s.sys ∧ (countGarbage k s).cfg = s.cfg ∧ (countGarbage k s).pb = s.pb ∧
    (countGarbage k s).ph = s.ph ∧ (countGarbage k s).build = s.build ∧ (countGarbage k s).cmdIndex = s.cmdIndex ∧
    (countGarbage k s).pending = s.pending ∧ (countGarbage k s).env = s.env ∧
    (countGarbage k s).oscIdx = s.oscIdx ∧ (countGarbage k s).resp = s.resp ∧ (countGarbage k s).events = s.events :=
  ⟨rfl, rfl, rfl, rfl, rfl, rfl, rfl, rfl, rfl, rfl, rfl, rfl, rfl, rfl⟩

@[simp] theorem countTooBig_keeps :
    (countTooBig s).tb = s.tb ∧ (countTooBig s).hm = s.hm ∧ (countTooBig s).cd = s.cd ∧
    (countTooBig s).sys = s.sys ∧ (countTooBig s).cfg = s.cfg ∧ (countTooBig s).pb = s.pb ∧
    (countTooBig s).ph = s.ph ∧ (countTooBig s).build = s.build ∧ (countTooBig s).cmdIndex = s.cmdIndex ∧
    (countTooBig s).pending = s.pending ∧ (countTooBig s).env = s.env ∧ (countTooBig s).oscIdx = s.oscIdx ∧
    (countTooBig s).resp = s.resp ∧ (countTooBig s).events = s.events :=
  ⟨rfl, rfl, rfl, rfl, rfl, rfl, rfl, rfl, rfl, rfl, rfl, rfl, rfl, rfl⟩

@[simp] theorem countCksErr_keeps :
    (countCksErr s).tb = s.tb ∧ (countCksErr s).hm = s.hm ∧ (countCksErr s).cd = s.cd ∧
    (countCksErr s).sys = s.sys ∧ (countCksErr s).cfg = s.cfg ∧ (countCksErr s).pb = s.pb ∧
    (countCksErr s).ph = s.ph ∧ (countCksErr s).build = s.build ∧ (countCksErr s).cmdIndex = s.cmdIndex ∧
    (countCksErr s).pending = s.pending ∧ (countCksErr s).env = s.env ∧ (countCksErr s).oscIdx = s.oscIdx ∧
    (countCksErr s).resp = s.resp ∧ (countCksErr s).events = s.events :=
  ⟨rfl, rfl, rfl, rfl, rfl, rfl, rfl, rfl, rfl, rfl, rfl, rfl, rfl, rfl⟩

@[simp] theorem countFramingErr_keeps :
    (countFramingErr s).tb = s.tb ∧ (countFramingErr s).hm = s.hm ∧ (countFramingErr s).cd = s.cd ∧
    (countFramingErr s).sys = s.sys ∧ (countFramingErr s).cfg = s.cfg ∧ (countFramingErr s).pb = s.pb ∧
    (countFramingErr s).ph = s.ph ∧ (countFramingErr s).build = s.build ∧
    (countFramingErr s).cmdIndex = s.cmdIndex ∧ (countFramingErr s).pending = s.pending ∧
    (countFramingErr s).env = s.env ∧ (countFramingErr s).oscIdx = s.oscIdx ∧ (countFramingErr s).resp = s.resp ∧
    (countFramingErr s).events = s.events :=
  ⟨rfl, rfl, rfl, rfl, rfl, rfl, rfl, rfl, rfl, rfl, rfl, rfl, rfl, rfl⟩

@[simp] theorem storeByte_keeps (b : Byte) :
    (storeByte b s).tb = s.tb ∧ (storeByte b s).hm = s.hm ∧ (storeByte b s).cd = s.cd ∧
    (storeByte b s).sys = s.sys ∧ (storeByte b s).cfg = s.cfg ∧ (storeByte b s).ph = s.ph ∧
    (storeByte b s).build = s.build ∧ (storeByte b s).cmdIndex = s.cmdIndex ∧ (storeByte b s).pending = s.pending ∧
    (storeByte b s).env = s.env ∧ (storeByte b s).oscIdx = s.oscIdx ∧ (storeByte b s).resp = s.resp ∧
    (storeByte b s).events = s.events :=
  ⟨rfl, rfl, rfl, rfl, rfl, rfl, rfl, rfl, rfl, rfl, rfl, rfl, rfl⟩

@[simp] theorem takeLength_keeps (len tail : Nat) (c1 c2 c3 : Byte) :
    (takeLength len tail c1 c2 c3 s).tb = s.tb ∧ (takeLength len tail c1 c2 c3 s).hm = s.hm ∧
    (takeLength len tail c1 c2 c3 s).cd = s.cd ∧ (takeLength len tail c1 c2 c3 s).sys = s.sys ∧
    (takeLength len tail c1 c2 c3 s).cfg = s.cfg ∧ (takeLength len tail c1 c2 c3 s).pb = s.pb ∧
    (takeLength len tail c1 c2 c3 s).ph = s.ph ∧ (takeLength len tail c1 c2 c3 s).build = s.build ∧
    (takeLength len tail c1 c2 c3 s).cmdIndex = s.cmdIndex ∧ (takeLength len tail c1 c2 c3 s).pending = s.pending ∧
    (takeLength len tail c1 c2 c3 s).env = s.env ∧ (takeLength len tail c1 c2 c3 s).oscIdx = s.oscIdx ∧
    (takeLength len tail c1 c2 c3 s).resp = s.resp ∧ (takeLength len tail c1 c2 c3 s).events = s.events := by
  unfold takeLength
  dsimp only
  (repeat' split) <;> simp

@[simp] theorem drainByte_keeps :
    (drainByte s).tb = s.tb ∧ (drainByte s).hm = s.hm ∧ (drainByte s).cd = s.cd ∧ (drainByte s).sys = s.sys ∧
    (drainByte s).cfg = s.cfg ∧ (drainByte s).pb = s.pb ∧ (drainByte s).ph = s.ph ∧ (drainByte s).build = s.build ∧
    (drainByte s).cmdIndex = s.cmdIndex ∧ (drainByte s).pending = s.pending ∧ (drainByte s).env = s.env ∧
    (drainByte s).oscIdx = s.oscIdx ∧ (drainByte s).resp = s.resp ∧ (drainByte s).events = s.events := by
  unfold drainByte
  dsimp only
  split <;> simp

@[simp] theorem sirfSync1_keeps (b : Byte) :
    (sirfSync1 b s).tb = s.tb ∧ (sirfSync1 b s).hm = s.hm ∧ (sirfSync1 b s).cd = s.cd ∧
    (sirfSync1 b s).sys = s.sys ∧ (sirfSync1 b s).cfg = s.cfg ∧ (sirfSync1 b s).pb = s.pb ∧
    (sirfSync1 b s).ph = s.ph ∧ (sirfSync1 b s).build = s.build ∧ (sirfSync1 b s).cmdIndex = s.cmdIndex ∧
    (sirfSync1 b s).pending = s.pending ∧ (sirfSync1 b s).env = s.env ∧ (sirfSync1 b s).oscIdx = s.oscIdx ∧
    (sirfSync1 b s).resp = s.resp ∧ (sirfSync1 b s).events = s.events := by
  unfold sirfSync1
  split <;> simp

@[simp] theorem sirfReprocess_keeps (b : Byte) :
    (sirfReprocess b s).tb = s.tb ∧ (sirfReprocess b s).hm = s.hm ∧ (sirfReprocess b s).cd = s.cd ∧
    (sirfReprocess b s).sys = s.sys ∧ (sirfReprocess b s).cfg = s.cfg ∧ (sirfReprocess b s).pb = s.pb ∧
    (sirfReprocess b s).ph = s.ph ∧ (sirfReprocess b s).build = s.build ∧
    (sirfReprocess b s).cmdIndex = s.cmdIndex ∧ (sirfReprocess b s).pending = s.pending ∧
    (sirfReprocess b s).env = s.env ∧ (sirfReprocess b s).oscIdx = s.oscIdx ∧ (sirfReprocess b s).resp = s.resp ∧
    (sirfReprocess b s).events = s.events := by
  simp [sirfReprocess]

@[simp] theorem ubxSync1_keeps (b : Byte) :
    (ubxSync1 b s).tb = s.tb ∧ (ubxSync1 b s).hm = s.hm ∧ (ubxSync1 b s).cd = s.cd ∧ (ubxSync1 b s).sys = s.sys ∧
    (ubxSync1 b s).cfg = s.cfg ∧ (ubxSync1 b s).pb = s.pb ∧ (ubxSync1 b s).ph = s.ph ∧
    (ubxSync1 b s).build = s.build ∧ (ubxSync1 b s).cmdIndex = s.cmdIndex ∧ (ubxSync1 b s).pending = s.pending ∧
    (ubxSync1 b s).env = s.env ∧ (ubxSync1 b s).oscIdx = s.oscIdx ∧ (ubxSync1 b s).resp = s.resp ∧
    (ubxSync1 b s).events = s.events := by
  unfold ubxSync1
  split <;> simp

@[simp] theorem ubxReprocess_keeps (b : Byte) :
    (ubxReprocess b s).tb = s.tb ∧ (ubxReprocess b s).hm = s.hm ∧ (ubxReprocess b s).cd = s.cd ∧
    (ubxReprocess b s).sys = s.sys ∧ (ubxReprocess b s).cfg = s.cfg ∧ (ubxReprocess b s).pb = s.pb ∧
    (ubxReprocess b s).ph = s.ph ∧ (ubxReprocess b s).build = s.build ∧ (ubxReprocess b s).cmdIndex = s.cmdIndex ∧
    (ubxReprocess b s).pending = s.pending ∧ (ubxReprocess b s).env = s.env ∧
    (ubxReprocess b s).oscIdx = s.oscIdx ∧ (ubxReprocess b s).resp = s.resp ∧ (ubxReprocess b s).events = s.events := by
  simp [ubxReprocess]

@[simp] theorem tsipStartFrame_keeps (b : Byte) :
    (tsipStartFrame b s).tb = s.tb ∧ (tsipStartFrame b s).hm = s.hm ∧ (tsipStartFrame b s).cd = s.cd ∧
    (tsipStartFrame b s).sys = s.sys ∧ (tsipStartFrame b s).cfg = s.cfg ∧ (tsipStartFrame b s).pb = s.pb ∧
    (tsipStartFrame b s).ph = s.ph ∧ (tsipStartFrame b s).build = s.build ∧
    (tsipStartFrame b s).cmdIndex = s.cmdIndex ∧ (tsipStartFrame b s).pending = s.pending ∧
    (tsipStartFrame b s).env = s.env ∧ (tsipStartFrame b s).oscIdx = s.oscIdx ∧
    (tsipStartFrame b s).resp = s.resp ∧ (tsipStartFrame b s).events = s.events :=
  ⟨rfl, rfl, rfl, rfl, rfl, rfl, rfl, rfl, rfl, rfl, rfl, rfl, rfl, rfl⟩

end Sys2Proof.Machine
end

