-- ==== Sys2Proof/Laws/Ops.lean ====
section
/-! SUPPORT. Lemmas that say once what a shared operation does, for proofs to cite instead of unfolding it: arithmetic
(R12), HM.update (R125 to R128), the annealing of a factor (R157), the samples a step accepts (R144, R145). -/

namespace Sys2Proof.Machine

/-! ## Arithmetic (R12) -/

/-- A clamped value lies between the bounds. -/
theorem clamp_bounds {v lo hi : Int} (h : lo ≤ hi) : lo ≤ clamp v lo hi ∧ clamp v lo hi ≤ hi := by
  unfold clamp; split
  · omega
  · split <;> omega

/-- A value between the bounds is not changed. -/
theorem clamp_eq_self {v lo hi : Int} (h1 : lo ≤ v) (h2 : v ≤ hi) : clamp v lo hi = v := by
  unfold clamp; rw [if_neg (by omega), if_neg (by omega)]

/-- An i32 register that is given a value in its range holds it (R11). -/
theorem toInt_ofInt32 {v : Int} (h1 : -2 ^ 31 ≤ v) (h2 : v < 2 ^ 31) : (BitVec.ofInt 32 v).toInt = v := by
  rw [BitVec.toInt_ofInt]; exact Int.bmod_eq_of_le (by omega) (by omega)

/-- An i64 register that is given a value in its range holds it (R11). -/
theorem toInt_ofInt64 {v : Int} (h1 : -2 ^ 63 ≤ v) (h2 : v < 2 ^ 63) : (BitVec.ofInt 64 v).toInt = v := by
  rw [BitVec.toInt_ofInt]; exact Int.bmod_eq_of_le (by omega) (by omega)

/-- An i8 register that is given a value in its range holds it (R11). -/
theorem toInt_ofInt8 {v : Int} (h1 : -2 ^ 7 ≤ v) (h2 : v < 2 ^ 7) : (BitVec.ofInt 8 v).toInt = v := by
  rw [BitVec.toInt_ofInt]; exact Int.bmod_eq_of_le (by omega) (by omega)

/-- An unsigned register that is given a value in its range holds it (R11). -/
theorem toNat_ofInt {w : Nat} {v : Int} (h1 : 0 ≤ v) (h2 : v < 2 ^ w) : ((BitVec.ofInt w v).toNat : Int) = v := by
  rw [BitVec.toNat_ofInt]
  have : v % (2 ^ w : Nat) = v := Int.emod_eq_of_lt h1 (by exact_mod_cast h2)
  rw [this]; omega

/-- A saturating count (R12). -/
theorem satInc32_toNat (v : Word) : (satInc32 v).toNat = min (v.toNat + 1) (2 ^ 32 - 1) := by
  have := v.isLt
  simp only [satInc32, BitVec.toNat_ofNat]
  omega

/-- Truncating division: what is left over is smaller than the divisor and has the dividend's sign (R12). -/
theorem tdiv_rem (a : Int) {b : Int} (hb : 0 < b) :
    (a - tdiv a b * b).natAbs < b.natAbs ∧ (0 ≤ a → 0 ≤ a - tdiv a b * b) ∧ (a ≤ 0 → a - tdiv a b * b ≤ 0) := by
  have hrem : a - tdiv a b * b = Int.tmod a b := by
    have := Int.tmod_add_mul_tdiv a b
    have h2 : tdiv a b * b = b * Int.tdiv a b := by unfold tdiv; rw [Int.mul_comm]
    omega
  rw [hrem]
  have h := Int.natAbs_tmod a b
  have h2 : a.natAbs % b.natAbs < b.natAbs := Nat.mod_lt _ (by omega)
  refine ⟨by omega, fun ha => Int.tmod_nonneg b ha, fun ha => ?_⟩
  have := Int.tmod_nonneg (a := -a) b (by omega)
  rw [Int.neg_tmod] at this
  omega

/-! ## HM.update (R125 to R128) -/

/-- The status that HM.update goes to (R125). -/
abbrev updateTarget (s : State) : SystemStatus := nextSystem s.hm.system s.hm.osc s.hm.gps s.hm.pll s.hm.fll

/-- HOLDOVER is reached from OK only, with Gps lost and Fll good (R125 row 1). -/
theorem nextSystem_holdover {S : SystemStatus} {osc gps pll fll : SubStatus}
    (h : nextSystem S osc gps pll fll = .holdover) :
    (S = .holdover ∧ fll ≠ .unlock ∧ pll ≠ .unlock ∧ osc ≠ .unlock) ∨ (S = .ok ∧ gps = .unlock ∧ fll = .ok) := by
  revert h; cases S <;> cases osc <;> cases gps <;> cases pll <;> cases fll <;> decide

/-- OK is reached from another status only with Pll, Gps and Osc good (R125 row 5), and kept only with Gps not lost
(rows 1 and 2). -/
theorem nextSystem_ok {S : SystemStatus} {osc gps pll fll : SubStatus} (h : nextSystem S osc gps pll fll = .ok) :
    (S = .ok ∧ gps ≠ .unlock) ∨ (S ≠ .ok ∧ pll = .ok ∧ gps = .ok ∧ osc = .ok) := by
  revert h; cases S <;> cases osc <;> cases gps <;> cases pll <;> cases fll <;> decide

/-- The holdover duration that HM.update hands to CD.leave_holdover (R126). -/
def holdoverDuration (s : State) : Nat := (min (max 0 (tbToUnix s - s.hm.holdoverStart.toInt)) (2 ^ 32 - 1)).toNat

/-- What HM.update does to HealthMonitor. -/
theorem hmUpdate_hm (s : State) : (hmUpdate s).hm =
    { s.hm with
      system := updateTarget s,
      ppsEnabled :=
        if updateTarget s = s.hm.system then s.hm.ppsEnabled
        else match updateTarget s with
          | .ok => true
          | .holdover => s.hm.ppsEnabled
          | .unlock => false,
      holdoverStart :=
        if updateTarget s = .holdover ∧ s.hm.system ≠ .holdover then BitVec.ofInt 64 (tbToUnix s)
        else s.hm.holdoverStart } := by
  unfold hmUpdate updateTarget
  dsimp only
  generalize hT : nextSystem s.hm.system s.hm.osc s.hm.gps s.hm.pll s.hm.fll = T
  split
  · rename_i h; subst h; simp
  · rename_i h
    cases T with
    | ok => cases s.hm.system <;> simp [enterOk]
    | holdover => simp [enterHoldoverSide, show s.hm.system ≠ .holdover from fun e => h e.symm]; rfl
    | unlock => simp [enterUnlock]

/-- What HM.update does to ClockDiscipline. -/
theorem hmUpdate_cd (s : State) : (hmUpdate s).cd =
    if updateTarget s = s.hm.system then s.cd
    else match updateTarget s with
      | .ok => if s.hm.system = .holdover then (cdLeaveHoldover (holdoverDuration s) s).cd else s.cd
      | .holdover => (cdEnterHoldover s).cd
      | .unlock => s.cd := by
  unfold hmUpdate updateTarget
  dsimp only
  generalize hT : nextSystem s.hm.system s.hm.osc s.hm.gps s.hm.pll s.hm.fll = T
  split
  · rfl
  · rename_i h
    cases T with
    | ok => cases hS : s.hm.system <;> simp [enterOk] ; rfl
    | holdover => rfl
    | unlock => simp [enterUnlock]

/-- What HM.update emits. -/
theorem hmUpdate_events (s : State) : (hmUpdate s).events =
    if updateTarget s = s.hm.system then s.events
    else match updateTarget s with
      | .ok => s.events ++ [.ppsEnable]
      | .holdover => (cdEnterHoldover s).events
      | .unlock => s.events ++ [.ppsDisable] := by
  unfold hmUpdate updateTarget
  dsimp only
  generalize hT : nextSystem s.hm.system s.hm.osc s.hm.gps s.hm.pll s.hm.fll = T
  split
  · rfl
  · rename_i h
    cases T with
    | ok => cases hS : s.hm.system <;> simp [enterOk]
    | holdover => rfl
    | unlock => simp [enterUnlock]

/-- How many requests HM.update makes: one when it enters HOLDOVER, else none. -/
theorem hmUpdate_oscIdx (s : State) : (hmUpdate s).oscIdx =
    if updateTarget s = .holdover ∧ s.hm.system ≠ .holdover then s.oscIdx + 1 else s.oscIdx := by
  unfold hmUpdate updateTarget
  dsimp only
  generalize hT : nextSystem s.hm.system s.hm.osc s.hm.gps s.hm.pll s.hm.fll = T
  split
  · rename_i h; subst h; simp
  · rename_i h
    cases T with
    | ok => simp
    | holdover =>
      have : s.hm.system ≠ .holdover := fun e => h e.symm
      simp [this]; rfl
    | unlock => simp

/-! ## Holdover (R157) -/

/-- The cut of a factor at or above its minimum lies between 0 and the whole excess (R157). -/
theorem annealCut_bounds {annealS d : Nat} {factor minimum : Half} (hA : 1 ≤ annealS)
    (hf : minimum.toNat ≤ factor.toNat) :
    0 ≤ annealCut annealS d factor minimum ∧
      annealCut annealS d factor minimum ≤ (factor.toNat : Int) - minimum.toNat := by
  unfold annealCut fdiv
  dsimp only
  have hdd0 : (0 : Int) ≤ min (d : Int) annealS := by omega
  have hddA : min (d : Int) annealS ≤ annealS := by omega
  have he : (0 : Int) ≤ (factor.toNat : Int) - minimum.toNat := by omega
  generalize min (d : Int) annealS = dd at *
  generalize (factor.toNat : Int) - minimum.toNat = e at *
  have hpos : (0 : Int) < 2 * annealS := by omega
  have h1 : -(e * dd) / (2 * annealS) ≤ 0 :=
    Int.ediv_nonpos_of_nonpos_of_neg (by nlinarith) (by omega)
  have h2 : -e ≤ -(e * dd) / (2 * annealS) := by
    apply Int.le_ediv_of_mul_le hpos
    nlinarith
  omega

/-- What CD.leave_holdover leaves in a factor that was at or above its minimum: the minimum at least, the factor at
most (R157). -/
theorem annealed_toNat {annealS d : Nat} {factor minimum : Half} (hA : 1 ≤ annealS)
    (hf : minimum.toNat ≤ factor.toNat) :
    ((BitVec.ofInt 16 ((factor.toNat : Int) - annealCut annealS d factor minimum)).toNat : Int)
      = (factor.toNat : Int) - annealCut annealS d factor minimum := by
  have h := annealCut_bounds (d := d) hA hf
  have := factor.isLt
  exact toNat_ofInt (by omega) (by omega)

/-! ## Accepted samples (R144, R145) -/

/-- The jump filter passes an accepted sample on, and it does not resync (R144, R145). -/
theorem accepts_spec {s : State} {p a : Int} (h : s.Accepts p a) :
    (jumpFilter p s).2 = a ∧ needsResync (jumpFilter p s).1 a = false := by
  obtain ⟨hcase, hphase, hjump⟩ := h
  have hbounds : ∀ t : State, t.build = s.build → t.cd.prevValid = s.cd.prevValid → t.cd.prevPhase = s.cd.prevPhase →
      needsResync t a = false := by
    intro t hb hv hp
    simp only [needsResync, hb, hv, hp, Bool.or_eq_false_iff, Bool.and_eq_false_imp, decide_eq_false_iff_not]
    exact ⟨by omega, fun hv => by have := hjump hv; omega⟩
  constructor
  · rcases hcase with ⟨rfl, hno⟩ | ⟨rfl, hv, hth, hc⟩
    · unfold jumpFilter isJump
      split
      · rename_i hj
        simp only [Bool.and_eq_true, decide_eq_true_eq] at hj
        rcases hno with hv | hth | hc
        · simp [hj.1] at hv
        · omega
        · rw [if_neg (by omega)]
      · rfl
    · simp [jumpFilter, isJump, hv, hth, hc]
  · apply hbounds
    · simp
    · unfold jumpFilter; split <;> [split; skip] <;> rfl
    · unfold jumpFilter; split <;> [split; skip] <;> rfl

end Sys2Proof.Machine
end

