-- ==== Sys2Proof/Laws/PerInstr.lean ====
section
/-! SUPPORT. Statements made per instruction (LAWS.json): the fields of a command's word are those its encoder gives,
whatever the operands (R52, R55). -/

namespace Sys2Proof

/-- The field op of an encoded command (R52). -/
theorem opField_encode (i : Instr) : opField (encode i) = i.opcode := by
  unfold opField
  ext k hk
  rw [BitVec.getElem_extractLsb',
    show (encode i).getLsbD (64 + k) = _ from BitVec.getLsbD_append, if_neg (by omega),
    BitVec.getLsbD_eq_getElem (by omega)]
  simp

/-- The field a of an encoded command (R52). -/
theorem fieldA_encode (i : Instr) : fieldA (encode i) = i.encodeA := by
  unfold fieldA
  ext k hk
  rw [BitVec.getElem_extractLsb',
    show (encode i).getLsbD (32 + k) = _ from BitVec.getLsbD_append, if_pos (by omega),
    BitVec.getLsbD_append, if_neg (by omega), BitVec.getLsbD_eq_getElem (by omega)]
  simp

/-- The field b of an encoded command (R52). -/
theorem fieldB_encode (i : Instr) : fieldB (encode i) = i.encodeB := by
  unfold fieldB
  ext k hk
  rw [BitVec.getElem_extractLsb',
    show (encode i).getLsbD (0 + k) = _ from BitVec.getLsbD_append, if_pos (by omega),
    BitVec.getLsbD_append, if_pos (by omega), BitVec.getLsbD_eq_getElem (by omega)]
  simp

/-- Decoding an encoded command reads back its opcode and operand fields (R57). -/
theorem decode_encode_fields (i : Instr) : decode (encode i) = decodeFields i.opcode i.encodeA i.encodeB := by
  unfold decode; rw [opField_encode, fieldA_encode, fieldB_encode]

end Sys2Proof

namespace Sys2Proof.Laws.EncodedOpcode

/-- The op field of a command's word is the opcode the map assigns to it (R52, R55). -/
def Statement (i : Instr) : Prop := opField (encode i) = i.opcode

theorem nop : Statement .nop := opField_encode _
theorem reset : Statement .reset := opField_encode _
theorem secondTick : Statement .secondTick := opField_encode _
theorem ppsCapture (tick : Nat) : Statement (.ppsCapture tick) := opField_encode _
theorem gpsFeed (byte : Nat) : Statement (.gpsFeed byte) := opField_encode _
theorem tbSetDate (week : Nat) (off : Int) (tow : Nat) : Statement (.tbSetDate week off tow) := opField_encode _
theorem tbTickToNs (tick : Nat) : Statement (.tbTickToNs tick) := opField_encode _
theorem tbAdvance : Statement .tbAdvance := opField_encode _
theorem tbToNtp (tick : Nat) (fudge : Int) : Statement (.tbToNtp tick fudge) := opField_encode _
theorem tbToUnix : Statement .tbToUnix := opField_encode _
theorem tbGetDate : Statement .tbGetDate := opField_encode _
theorem hmSetOsc (code : Nat) : Statement (.hmSetOsc code) := opField_encode _
theorem hmSetGps (code : Nat) : Statement (.hmSetGps code) := opField_encode _
theorem hmSetPll (code : Nat) : Statement (.hmSetPll code) := opField_encode _
theorem hmSetFll (code : Nat) : Statement (.hmSetFll code) := opField_encode _
theorem hmResetGpsWdt : Statement .hmResetGpsWdt := opField_encode _
theorem hmResetFllWdt : Statement .hmResetFllWdt := opField_encode _
theorem hmUpdate : Statement .hmUpdate := opField_encode _
theorem hmShouldRun : Statement .hmShouldRun := opField_encode _
theorem hmGetStatus : Statement .hmGetStatus := opField_encode _
theorem cdEnterHoldover : Statement .cdEnterHoldover := opField_encode _
theorem cdLeaveHoldover (duration : Nat) : Statement (.cdLeaveHoldover duration) := opField_encode _
theorem cdStep (phase : Int) (gpsValid : Bool) : Statement (.cdStep phase gpsValid) := opField_encode _
theorem cfgWrite (reg : Nat) (value : Nat) : Statement (.cfgWrite reg value) := opField_encode _
theorem readReg (reg : Nat) : Statement (.readReg reg) := opField_encode _
theorem readPb (addr : Nat) : Statement (.readPb addr) := opField_encode _

end Sys2Proof.Laws.EncodedOpcode
end

