-- ==== Sys2Proof/Tests/Slice0.lean ====
section
/-! SUPPORT. Tests: well-formedness, decoding on words written out in spec/95_test_vectors.md and from R52 to R55, one
step of each command against the vectors of spec/95_test_vectors.md, and for each statement with hypotheses a concrete
state and operands that meet them together. -/

namespace Sys2Proof.Tests

/-! One theorem is checked at a time: each waits for the kernel, and all of them at once take a thread each. -/
set_option Elab.async false

open Sys2Proof Sys2Proof.Machine

/-! ## Helpers -/

/-- The outcome is a next state for which `p` holds. -/
def nextThat (o : Host.Outcome State Fault Refusal) (p : State → Bool) : Bool :=
  match o with
  | .next t => p t
  | _ => false

theorem nextThat_spec {o : Host.Outcome State Fault Refusal} {p : State → Bool} (h : nextThat o p = true) :
    ∃ t, o = .next t ∧ p t = true := by
  cases o with
  | next t => exact ⟨t, rfl, h⟩
  | fault _ => cases h
  | refused _ => cases h

/-- The outcome is a next state. -/
def completes (o : Host.Outcome State Fault Refusal) : Bool := nextThat o (fun _ => true)

theorem completes_spec {o : Host.Outcome State Fault Refusal} (h : completes o = true) : ∃ t, o = .next t := by
  obtain ⟨t, ht, -⟩ := nextThat_spec h
  exact ⟨t, ht⟩

/-- The response of the outcome's next state. -/
def answers (o : Host.Outcome State Fault Refusal) (st : Status) (r0 : Int) (r1 : Nat) : Bool :=
  nextThat o (fun t => decide (t.resp = ⟨st, BitVec.ofInt 64 r0, BitVec.ofNat 32 r1⟩))

/-! ## Well-formed commands: each operand form's bound, one past it refused (R53) -/

theorem test_wellFormed_u32 :
    (Instr.ppsCapture (2 ^ 32)).wellFormed = false ∧ (Instr.tbTickToNs (2 ^ 32)).wellFormed = false ∧
    (Instr.cdLeaveHoldover (2 ^ 32)).wellFormed = false ∧ (Instr.tbSetDate 0 0 (2 ^ 32)).wellFormed = false ∧
    (Instr.tbToNtp (2 ^ 32) 0).wellFormed = false ∧ (Instr.cfgWrite 0x0500 (2 ^ 32)).wellFormed = false := by decide

theorem test_wellFormed_u16 :
    (Instr.tbSetDate 65536 0 0).wellFormed = false ∧ (Instr.cfgWrite 65536 0).wellFormed = false ∧
    (Instr.readReg 65536).wellFormed = false ∧ (Instr.readPb 65536).wellFormed = false := by decide

theorem test_wellFormed_u8 :
    (Instr.gpsFeed 256).wellFormed = false ∧ (Instr.hmSetOsc 256).wellFormed = false ∧
    (Instr.hmSetGps 256).wellFormed = false ∧ (Instr.hmSetPll 256).wellFormed = false ∧
    (Instr.hmSetFll 256).wellFormed = false := by decide

theorem test_wellFormed_s16h :
    (Instr.tbSetDate 0 (-32769) 0).wellFormed = false ∧ (Instr.tbSetDate 0 32768 0).wellFormed = false ∧
    (Instr.tbSetDate 0 (-32768) 0).wellFormed = true := by decide

theorem test_wellFormed_s32 :
    (Instr.tbToNtp 0 (2 ^ 31)).wellFormed = false ∧ (Instr.tbToNtp 0 (-2 ^ 31 - 1)).wellFormed = false ∧
    (Instr.cdStep (2 ^ 31) true).wellFormed = false ∧ (Instr.cdStep (-2 ^ 31) true).wellFormed = true := by decide

/-! ## Decoding: words written out in spec/95_test_vectors.md or from R52, R53 and R55 -/

theorem test_decode_system :
    decode 0x00_FFFFFFFF_FFFFFFFF = .ok .nop ∧ decode 0x01_00000000_00000000 = .ok .reset ∧
    decode 0x10_00000000_00000000 = .ok .secondTick := by decide +kernel

theorem test_decode_streams :
    decode 0x11_00000007_00000000 = .ok (.ppsCapture 7) ∧
    decode 0x12_000000B5_00000000 = .ok (.gpsFeed 0xB5) := by decide +kernel

theorem test_decode_timebase :
    decode 0x20_FFEE0898_00000064 = .ok (.tbSetDate 2200 (-18) 100) ∧
    decode 0x21_004C4B41_00000000 = .ok (.tbTickToNs 5000001) ∧
    decode 0x22_00000000_00000000 = .ok .tbAdvance ∧
    decode 0x23_0098967F_7FFFFFFF = .ok (.tbToNtp 9999999 2147483647) ∧
    decode 0x24_00000000_00000000 = .ok .tbToUnix ∧ decode 0x25_00000000_00000000 = .ok .tbGetDate := by decide +kernel

theorem test_decode_health_setters :
    decode 0x30_00000001_00000000 = .ok (.hmSetOsc 1) ∧ decode 0x31_00000002_00000000 = .ok (.hmSetGps 2) ∧
    decode 0x32_00000102_00000000 = .ok (.hmSetPll 2) ∧ decode 0x33_00000000_00000000 = .ok (.hmSetFll 0) := by
  decide +kernel

theorem test_decode_health_others :
    decode 0x34_00000000_00000000 = .ok .hmResetGpsWdt ∧ decode 0x35_00000000_00000000 = .ok .hmResetFllWdt ∧
    decode 0x36_00000000_00000000 = .ok .hmUpdate ∧ decode 0x37_00000000_00000000 = .ok .hmShouldRun ∧
    decode 0x38_00000000_00000000 = .ok .hmGetStatus := by decide +kernel

theorem test_decode_discipline :
    decode 0x40_00000000_00000000 = .ok .cdEnterHoldover ∧
    decode 0x41_00001C20_00000000 = .ok (.cdLeaveHoldover 7200) ∧
    decode 0x42_FFFE795F_00000001 = .ok (.cdStep (-100001) true) ∧
    decode 0x42_00000000_00000000 = .ok (.cdStep 0 false) := by decide +kernel

theorem test_decode_configuration :
    decode 0x50_00000505_FFFFFFFD = .ok (.cfgWrite 0x0505 0xFFFFFFFD) ∧
    decode 0x51_0000030B_00000000 = .ok (.readReg 0x030B) ∧
    decode 0x52_00000101_00000000 = .ok (.readPb 257) := by decide +kernel

theorem test_decode_reserved :
    decode 0x02_00000000_00000000 = .error (.reservedOpcode 0x02) ∧
    decode 0x13_00000000_00000000 = .error (.reservedOpcode 0x13) ∧
    decode 0xFF_00000000_00000000 = .error (.reservedOpcode 0xFF) := by decide +kernel

theorem test_encode_words :
    encode (.tbSetDate 5 (-32768) 0) = 0x20_80000005_00000000 ∧
    encode (.tbToNtp 0 (-1)) = 0x23_00000000_FFFFFFFF ∧
    encode (.cdStep (-100001) true) = 0x42_FFFE795F_00000001 ∧
    encode (.cfgWrite 0x0507 0xE2329B00) = 0x50_00000507_E2329B00 := by decide +kernel

theorem test_table_word :
    decodeTableWord 72 0x42_000001F4_00000001 = some (.cdStep 500 true) ∧
    decodeTableWord 72 0x02_00000000_00000000 = none := by decide +kernel

/-- Program P3's lines, in R58's syntax, and P2's first line, in R59's. -/
theorem test_assemble :
    assemble? .add8 "lost:   HM_SET_GPS UNLOCK   ; row 1\n        READ_REG HM.holdover_start\n FEED 0x00, 0xB5" =
      some [0x31_00000000_00000000, 0x51_00000209_00000000, 0x12_00000000_00000000, 0x12_000000B5_00000000] := by
  decide +kernel

/-! ## One step of each command, with what spec/95_test_vectors.md expects -/

/-- Reset, with the oscillator's first reply given, and the dither draw 0 (§0 of the vectors). -/
def withReply (r : Int) : State :=
  { State.reset with env := { oscReplies := [BitVec.ofInt 32 r], ditherU := some 0 } }

/-- A state of HealthMonitor as §4.1 sets it up. -/
def health (system : SystemStatus) (osc gps pll fll : SubStatus) : HealthMonitor :=
  { State.reset.hm with
    system := system, osc := osc, gps := gps, pll := pll, fll := fll,
    ppsEnabled := decide (system ≠ .unlock), holdoverStart := BitVec.ofNat 64 315964800 }

/-- SY1. -/
theorem test_nop : answers (exec .nop .reset) .ok 0 0 = true := by decide +kernel

/-- SY2. -/
theorem test_reset_emits_pps_disable :
    nextThat (exec .reset { State.reset with hm := health .ok .ok .ok .ok .ok })
      (fun t => decide (t.events = [.ppsDisable] ∧ t.hm = State.reset.hm)) = true := by decide +kernel

/-- SY5: the pending sample is skipped, because GD.fix_valid is 0. -/
theorem test_secondTick_skips :
    nextThat (exec .secondTick { State.reset with sys := ⟨true, 700⟩, cd := { State.reset.cd with skipped := 1 } })
      (fun t => decide (t.resp.r0 = 0 ∧ t.cd.skipped = 2 ∧ t.sys.pendingValid = false)) = true := by decide +kernel

/-- P5, the first tick: the step runs in UNLOCK with Gps and Osc good. -/
theorem test_secondTick_steps :
    nextThat (exec .secondTick { withReply (-2000) with
        hm := health .unlock .ok .ok .unlock .unlock, gd := { State.reset.gd with fixValid := true }, sys := ⟨true, 500⟩ })
      (fun t => decide (t.resp.r0 = 1 ∧ t.events = [.oscRate (-2000) (-2000), .timerPeriod (10000000 + 1)])) = true := by
  decide +kernel

/-- SY4: the capture before was not used. -/
theorem test_ppsCapture :
    nextThat (exec (.ppsCapture 7) { State.reset with sys := ⟨true, 500⟩ })
      (fun t => decide (t.resp = ⟨.ok, 700, 0⟩ ∧ t.cd.skipped = 1 ∧ t.sys = ⟨true, 700⟩)) = true := by decide +kernel

/-- FR4: 0x41 in state S_SYNC1 is garbage. -/
theorem test_gpsFeed_garbage :
    nextThat (exec (.gpsFeed 0x41) .reset) (fun t => decide (t.gd.garbage = 1 ∧ t.gd.state = 0)) = true := by
  decide +kernel

/-- FR1, the last byte of SIRF7: the fix with the UTC offset −18. -/
theorem test_gpsFeed_fix :
    nextThat (exec (.gpsFeed 0xB3) { State.reset with
        gd := { State.reset.gd with state := 8, len := 20, idx := 20, alarm := .ok, utcKnown := true, utcOffset := -18 },
        pb := [(0, 7), (1, 8), (2, 0x98), (5, 0x27), (6, 0x10), (7, 8)] })
      (fun t => decide (t.resp.r0 = 1 ∧ t.tb = ⟨2200, 82, true⟩ ∧ t.gd.fixValid = true ∧ t.hm.gps = .ok)) = true := by
  decide +kernel

/-- SD4 and SD8. -/
theorem test_tbSetDate :
    nextThat (exec (.tbSetDate 2200 (-18) 17) .reset) (fun t => decide (t.tb = ⟨2199, 604799, true⟩)) = true ∧
    nextThat (exec (.tbSetDate 65535 18 604790) .reset) (fun t => decide (t.tb = ⟨0, 8, true⟩)) = true := by
  decide +kernel

/-- TK5 and TK7. -/
theorem test_tbTickToNs :
    answers (exec (.tbTickToNs 5000001) .reset) .ok (-499999900) 0 = true ∧
    answers (exec (.tbTickToNs 10000000) .reset) .errRange 0 0 = true := by decide +kernel

/-- AD3. -/
theorem test_tbAdvance :
    nextThat (exec .tbAdvance { State.reset with tb := ⟨65535, 604799, true⟩ }) (fun t => decide (t.tb = ⟨0, 0, true⟩)) =
      true := by decide +kernel

/-- NT5 and NT8. -/
theorem test_tbToNtp :
    answers (exec (.tbToNtp 0 (-1)) { State.reset with tb := ⟨2200, 82, true⟩ }) .ok 0xE5CE7851FFFFFFFF 0 = true ∧
    answers (exec (.tbToNtp 0 0) { State.reset with tb := ⟨2926, 368896, true⟩ }) .ok 0 0 = true := by decide +kernel

/-- NT2. -/
theorem test_tbToUnix :
    answers (exec .tbToUnix { State.reset with tb := ⟨2200, 82, true⟩ }) .ok 1646524882 0 = true := by decide +kernel

/-- TB_GET_DATE after SD1. -/
theorem test_tbGetDate :
    answers (exec .tbGetDate { State.reset with tb := ⟨2200, 82, true⟩ }) .ok 82 2200 = true := by decide +kernel

/-- HC10, and §4.1 case 3 with HM_SET_OSC OK. -/
theorem test_hmSetOsc :
    answers (exec (.hmSetOsc 2) .reset) .errRange 0 0 = true ∧
    nextThat (exec (.hmSetOsc 1) { State.reset with hm := health .unlock .unlock .ok .ok .unlock })
      (fun t => decide (t.hm.system = .ok ∧ t.events = [.ppsEnable])) = true := by decide +kernel

/-- HC10 and HC8. -/
theorem test_hmSetGps :
    answers (exec (.hmSetGps 3) .reset) .errRange 0 0 = true ∧
    nextThat (exec (.hmSetGps 2) .reset) (fun t => decide (t.hm.gps = .minorAlarm)) = true := by decide +kernel

/-- §7, and §4.1 case 44 with HM_SET_PLL UNLOCK: row 4. -/
theorem test_hmSetPll :
    answers (exec (.hmSetPll 2) .reset) .errRange 0 0 = true ∧
    nextThat (exec (.hmSetPll 0) { State.reset with hm := health .holdover .ok .ok .ok .ok })
      (fun t => decide (t.hm.system = .unlock ∧ t.events = [.ppsDisable])) = true := by decide +kernel

/-- HC5: UNLOCK does not refresh the watchdog. -/
theorem test_hmSetFll :
    nextThat (exec (.hmSetFll 0) { State.reset with hm := { State.reset.hm with fll := .ok, fllWdt := 5 } })
      (fun t => decide (t.hm.fll = .unlock ∧ t.hm.fllWdt = 5)) = true := by decide +kernel

/-- HC2 and HC5. -/
theorem test_watchdog_refreshes :
    nextThat (exec .hmResetGpsWdt { State.reset with hm := { State.reset.hm with gpsWdt := 2, fllWdt := 2 } })
      (fun t => decide (t.hm.gpsWdt = 0 ∧ t.hm.fllWdt = 2)) = true ∧
    nextThat (exec .hmResetFllWdt { State.reset with hm := { State.reset.hm with gpsWdt := 5, fllWdt := 5 } })
      (fun t => decide (t.hm.gpsWdt = 5 ∧ t.hm.fllWdt = 0)) = true := by decide +kernel

/-- §4.1 cases 64 and 25. -/
theorem test_hmUpdate :
    nextThat (exec .hmUpdate { withReply 0 with hm := health .ok .ok .unlock .ok .ok })
      (fun t => decide (t.hm.system = .holdover ∧ t.events = [.oscRate 0 0, .timerPeriod 10000000])) = true ∧
    nextThat (exec .hmUpdate { State.reset with hm := health .holdover .unlock .unlock .unlock .unlock })
      (fun t => decide (t.hm.system = .unlock ∧ t.events = [.ppsDisable])) = true := by decide +kernel

/-- §4.2. -/
theorem test_hmShouldRun :
    answers (exec .hmShouldRun { State.reset with hm := health .unlock .ok .ok .unlock .unlock }) .ok 1 0 = true ∧
    answers (exec .hmShouldRun { State.reset with hm := health .holdover .ok .ok .ok .ok }) .ok 0 0 = true := by
  decide +kernel

/-- §4.3 and HC8. -/
theorem test_hmGetStatus :
    answers (exec .hmGetStatus { State.reset with hm := health .ok .ok .ok .ok .ok }) .ok 0x10101010102 0 = true ∧
    answers (exec .hmGetStatus { State.reset with hm := { State.reset.hm with gps := .minorAlarm } }) .ok 0x20000 0 =
      true := by decide +kernel

/-- HO1: the learned rate alone is commanded, and both factors stay. -/
theorem test_cdEnterHoldover :
    nextThat (exec .cdEnterHoldover { withReply (-2) with
        cd := { State.reset.cd with fllRate := -3, oscLast := -4, pllFactor := 109, fllUpdates := 1 } })
      (fun t => decide (t.events = [.oscRate (-2) (-2), .timerPeriod (10000000 + 1)] ∧
        t.cd = { State.reset.cd with fllRate := -3, pllFactor := 109 })) = true := by decide +kernel

/-- HO4 for d = 7200, and for a d beyond HOLDOVER_ANNEAL_S. -/
theorem test_cdLeaveHoldover :
    nextThat (exec (.cdLeaveHoldover 7200) { State.reset with cd := { State.reset.cd with pllFactor := 1024, fllFactor := 256 } })
      (fun t => decide (t.cd.pllFactor = 984 ∧ t.cd.fllFactor = 245)) = true ∧
    nextThat (exec (.cdLeaveHoldover 1000000) { State.reset with cd := { State.reset.cd with pllFactor := 1024, fllFactor := 256 } })
      (fun t => decide (t.cd.pllFactor = 544 ∧ t.cd.fllFactor = 132)) = true := by decide +kernel

/-- DS2. -/
theorem test_cdStep_500 :
    nextThat (exec (.cdStep 500 true) (withReply (-2000)))
      (fun t => decide (t.events = [.oscRate (-2000) (-2000), .timerPeriod (10000000 + 1)] ∧
        t.cd = { State.reset.cd with
          prevPhase := 500, prevValid := true, filtQ := 128000, filtValid := true, filtered := 500, pllAcc := -160,
          pllRamp := 1, oscLast := -2000, realizedLast := -2001, secondsSinceReset := 1, histHead := 1, histCount := 1 }))
      = true := by decide +kernel

/-- §5.6 with the draw 0: an FLL update and the dither. -/
theorem test_cdStep_fll :
    nextThat (exec (.cdStep 1 true) { withReply (-4) with
        cd := { State.reset.cd with
          prevValid := true, filtValid := true, pllFactor := 109, secondsSinceReset := 180 } })
      (fun t => decide (t.events = [.oscRate (-4) (-4), .timerPeriod 10000000] ∧ t.cd.fllRate = -3 ∧
        t.cd.fllAcc = -232 ∧ t.cd.oscLast = -4 ∧ t.cd.fllUpdates = 1)) = true := by decide +kernel

/-- SY7 and SY8. -/
theorem test_cfgWrite :
    answers (exec (.cfgWrite 0x0507 0x80000000) .reset) .ok (-500000000) 0 = true ∧
    nextThat (exec (.cfgWrite 0x0505 0xFFFFFFFD) .reset) (fun t => decide (t.cd.fllRate = -3)) = true := by decide +kernel

/-- SY8 and §7: READ_REG PH.0 with an empty history. -/
theorem test_readReg :
    answers (exec (.readReg 0x0505) { State.reset with cd := { State.reset.cd with fllRate := -3 } }) .ok (-3) 0 = true ∧
    answers (exec (.readReg 0x0400) .reset) .errRange 0 0 = true := by decide +kernel

/-- SY10 and §7. -/
theorem test_readPb :
    answers (exec (.readPb 256) { State.reset with pb := [(256, 7)] }) .ok 7 0 = true ∧
    answers (exec (.readPb 257) .reset) .errRange 0 0 = true := by decide +kernel

/-- §7: a reserved opcode is a step with ERR_OPCODE. -/
theorem test_step_reserved :
    nextThat (step (State.reset.withFetchWord 72 0x13_00000000_00000000))
      (fun t => decide (t.resp = ⟨.errOpcode, 0, 0⟩ ∧ t.cd = State.reset.cd)) = true := by decide +kernel

/-- The first step from reset runs the word that is presented: SD1. -/
theorem test_step_runs_word :
    nextThat (step (State.reset.withFetchWord 72 0x20_FFEE0898_00000064)) (fun t => decide (t.tb = ⟨2200, 82, true⟩)) =
      true := by decide +kernel

/-! ## Concrete states for the statements' hypotheses -/

/-- Both environment inputs are given, so that a step can be evaluated. -/
def quietEnv : EnvInputs := { oscReplies := [0], ditherU := some 0 }

/-- A locked block: OK, its discipline settled, one entry of history, the frame machine idle. -/
def locked : State :=
  { State.reset with
    tb := ⟨2200, 82, true⟩,
    gd := { State.reset.gd with fixValid := true, alarm := .ok },
    hm := health .ok .ok .ok .ok .ok,
    cd := { State.reset.cd with
      prevPhase := 5, prevValid := true, filtQ := 1280, filtValid := true, filtered := 5, pllAcc := 20, pllFactor := 70,
      fllRate := 100, fllAcc := 7, fllFactor := 9, fllUpdates := 20, oscLast := 100, realizedLast := 100,
      secondsSinceReset := 200, histHead := 1, histCount := 1 },
    ph := [(0, 5)],
    env := quietEnv }

/-- The locked block in HOLDOVER, Gps lost. -/
def holding : State := { locked with hm := health .holdover .ok .unlock .ok .ok }

/-- The block after reset, with the environment inputs given. -/
def fresh : State := { State.reset with env := quietEnv }

/-- The locked block with another discipline. -/
def withCd (f : ClockDiscipline → ClockDiscipline) : State := { locked with cd := f locked.cd }

/-- The checks of `State.Inv`, for a SIRF block whose frame machine is idle. -/
def invChecks (s : State) : Bool :=
  decide (s.tb.tow.toNat < s.build.weekSeconds ∧ (s.hm.ppsEnabled = true ↔ s.hm.system ≠ .unlock) ∧ s.hm.osc ≠ .minorAlarm ∧
    s.hm.pll ≠ .minorAlarm ∧ s.hm.fll ≠ .minorAlarm ∧ (s.hm.system = .ok → s.hm.gps ≠ .unlock))
  && decide (1 ≤ s.cfg.pllFactorMin.toNat ∧ s.cfg.pllFactorMin.toNat ≤ s.cd.pllFactor.toNat ∧
    s.cd.pllFactor.toNat ≤ s.cfg.pllFactorMax.toNat ∧ s.cfg.pllFactorMax.toNat ≤ s.build.factorLimit ∧
    1 ≤ s.cfg.fllFactorMin.toNat ∧ s.cfg.fllFactorMin.toNat ≤ s.cd.fllFactor.toNat ∧
    s.cd.fllFactor.toNat ≤ s.cfg.fllFactorMax.toNat ∧ s.cfg.fllFactorMax.toNat ≤ s.build.factorLimit)
  && decide (s.cfg.fllRateMax.toNat ≤ s.build.fllRateLimit ∧ s.cd.fllRate.toInt.natAbs ≤ s.cfg.fllRateMax.toNat ∧
    s.cfg.phaseFudgeNs.toInt.natAbs ≤ s.build.phaseFudgeLimit ∧ s.cd.jumpCounter.toNat ≤ s.build.jumpCap ∧
    s.cd.histCount.toNat ≤ s.build.phaseHistoryLen ∧ s.cd.histHead.toNat < s.build.phaseHistoryLen ∧
    s.gd.idx.toNat ≤ s.build.maxPayload + 1)
  && decide (s.build.protocol = .sirf ∧ s.gd.cls = 0 ∧ s.gd.id = 0 ∧ s.gd.ovf = false ∧ s.gd.state = 0)
  && decide (Memory.wf s.pb = true ∧ Cells.below s.pb (s.build.maxPayload + 1) = true ∧ Cells.wf s.ph = true ∧
    Cells.below s.ph s.build.phaseHistoryLen = true)

theorem inv_of_checks {s : State} (h : invChecks s = true) : s.Inv := by
  simp only [invChecks, Bool.and_eq_true, decide_eq_true_eq] at h
  obtain ⟨⟨⟨⟨⟨a1, a2, a3, a4, a5, a6⟩, b1, b2, b3, b4, b5, b6, b7, b8⟩, c1, c2, c3, c4, c5, c6, c7⟩,
    d1, d2, d3, d4, d5⟩, e1, e2, e3, e4⟩ := h
  refine ⟨a1, a2, a3, a4, a5, a6, b1, b2, b3, b4, b5, b6, b7, b8, c1, c2, c3, c4, c5, c6, c7, ?_, e1, e2, e3, e4⟩
  simp only [State.FramingOk, d1]
  exact ⟨d2, d3, d4, .sync1, by rw [d5]; rfl, trivial⟩

/-- The checks of `State.Bounded`. -/
def boundedChecks (s : State) : Bool :=
  decide ((s.cd.prevValid = true → s.cd.prevPhase.toInt.natAbs ≤ s.build.resyncPhaseNs) ∧
    (s.cd.prevValid = false → s.cd.secondsSinceReset = 0) ∧
    (s.cd.filtValid = true → s.cd.filtQ.toInt.natAbs ≤ s.build.resyncPhaseNs * 2 ^ s.build.filtFracBits) ∧
    s.cd.pllAcc.toInt.natAbs < (s.build.pllCarryMax + 1) * s.build.factorLimit ∧
    s.cd.fllAcc.toInt.natAbs < s.build.factorLimit * s.build.fllSmoothing ∧
    s.cd.realizedLast.toInt.natAbs ≤ 2 ^ 31 + s.build.timerTrimMax * s.build.timerGranPpt ∧
    s.sys.pendingPhase.toInt.natAbs ≤ 500000000)

theorem bounded_of_checks {s : State} (h : boundedChecks s = true) : s.Bounded := by
  simp only [boundedChecks, decide_eq_true_eq] at h
  obtain ⟨h1, h2, h3, h4, h5, h6, h7⟩ := h
  exact ⟨h1, h2, h3, h4, h5, h6, h7⟩

/-- A legal instance whose parameters fit, in a state with the invariants and the ranges. -/
structure Sound (s : State) : Prop where
  legal : s.build.legal = true
  fits : s.build.fits = true
  inv : s.Inv
  bounded : s.Bounded

theorem sound_of_checks {s : State}
    (h : (s.build.legal && s.build.fits && invChecks s && boundedChecks s) = true) : Sound s := by
  simp only [Bool.and_eq_true] at h
  exact ⟨h.1.1.1, h.1.1.2, inv_of_checks h.1.2, bounded_of_checks h.2⟩

theorem locked_sound : Sound locked := sound_of_checks (by decide +kernel)
theorem holding_sound : Sound holding := sound_of_checks (by decide +kernel)
theorem fresh_sound : Sound fresh := sound_of_checks (by decide +kernel)

/-! ## Witnesses: a state and operands that meet a statement's hypotheses together -/

theorem witness_OpcodeMapAndOperandForms :
    ∃ (a b : Word) (word : Nat → CmdWord),
      ∀ op, word op = BitVec.ofNat 72 (op * 2 ^ 64 + a.toNat * 2 ^ 32 + b.toNat) :=
  ⟨0xFFEE08FC, 0xFFFFFFFF, _, fun _ => rfl⟩

theorem witness_DecodeOfEncode :
    (Instr.tbSetDate 65535 (-32768) 4294967295).wellFormed = true ∧ (Instr.cdStep (-2 ^ 31) true).wellFormed = true := by
  decide

theorem witness_EncodeOfDecode : decode 0x42_000001F4_FFFFFFFF = .ok (.cdStep 500 true) := by decide +kernel

/-- The first and last reserved value of each gap of R56. -/
theorem witness_ReservedOpcodeIsRejected :
    ∀ op ∈ [0x02, 0x0F, 0x13, 0x1F, 0x26, 0x2F, 0x39, 0x3F, 0x43, 0x4F, 0x53, 0xFF],
      let s := State.reset.present (BitVec.ofNat 72 (op * 2 ^ 64 + 1))
      s.build.legal = true ∧ s.pending = [⟨BitVec.ofNat 72 (op * 2 ^ 64 + 1), ⟨[], none⟩⟩] ∧
        op = (opField (BitVec.ofNat 72 (op * 2 ^ 64 + 1))).toNat ∧
        ((0x02 ≤ op ∧ op ≤ 0x0F) ∨ (0x13 ≤ op ∧ op ≤ 0x1F) ∨ (0x26 ≤ op ∧ op ≤ 0x2F) ∨ (0x39 ≤ op ∧ op ≤ 0x3F) ∨
          (0x43 ≤ op ∧ op ≤ 0x4F) ∨ (0x53 ≤ op ∧ op ≤ 0xFF)) := by decide +kernel

theorem witness_StepRunsDecodedCommand :
    (locked.present 0x42_000001F4_00000001).build.legal = true ∧
      (locked.present 0x42_000001F4_00000001).pending = [⟨0x42_000001F4_00000001, ⟨[], none⟩⟩] ∧
      decode 0x42_000001F4_00000001 = .ok (.cdStep 500 true) ∧ (Instr.cdStep 500 true).wellFormed = true := by
  decide +kernel

/-- No command presented; and an instance with an odd OSC_GRAN_PPT. -/
theorem witness_StepWithoutCommand :
    (locked.build.legal = true ∧ locked.pending = []) ∧
      { locked with build := { locked.build with oscGranPpt := 3 } }.build.legal = false := by decide +kernel

theorem witness_FetchWordRuns : locked.build.legal = true ∧ (Instr.hmSetGps 1).wellFormed = true := by decide +kernel

/-- Each row of R173 at its bound: the last operand that runs and the first that is rejected. -/
theorem witness_EveryCommandCompletes :
    Sound locked ∧
    ((Instr.ppsCapture 10000000).wellFormed = true ∧ rangeRejects (.ppsCapture 10000000) locked) ∧
    ((Instr.ppsCapture 9999999).wellFormed = true ∧ ¬ rangeRejects (.ppsCapture 9999999) locked) ∧
    rangeRejects (.tbSetDate 0 0 604800) locked ∧ ¬ rangeRejects (.tbSetDate 0 0 604799) locked ∧
    rangeRejects (.tbTickToNs 10000000) locked ∧ ¬ rangeRejects (.tbTickToNs 9999999) locked ∧
    rangeRejects (.tbToNtp 10000000 0) locked ∧ ¬ rangeRejects (.tbToNtp 9999999 0) locked ∧
    rangeRejects (.hmSetOsc 2) locked ∧ ¬ rangeRejects (.hmSetOsc 1) locked ∧
    rangeRejects (.hmSetGps 3) locked ∧ ¬ rangeRejects (.hmSetGps 2) locked ∧
    rangeRejects (.hmSetPll 2) locked ∧ ¬ rangeRejects (.hmSetPll 1) locked ∧
    rangeRejects (.hmSetFll 2) locked ∧ ¬ rangeRejects (.hmSetFll 1) locked := by
  refine ⟨locked_sound, ⟨by decide, ?_⟩, ⟨by decide, ?_⟩, ?_⟩ <;> simp only [rangeRejects] <;> decide +kernel

theorem witness_EveryCommandCompletes_registers :
    rangeRejects (.cfgWrite 0x04FF 0) locked ∧ ¬ rangeRejects (.cfgWrite 0x0500 0) locked ∧
    ¬ rangeRejects (.cfgWrite 0x0507 0) locked ∧ rangeRejects (.cfgWrite 0x0508 0) locked ∧
    ¬ rangeRejects (.readReg 0x0002) locked ∧ rangeRejects (.readReg 0x0003) locked ∧
    ¬ rangeRejects (.readReg 0x0400) locked ∧ rangeRejects (.readReg 0x0401) locked ∧
    ¬ rangeRejects (.readReg 0x0704) locked ∧ rangeRejects (.readReg 0x0705) locked ∧
    ¬ rangeRejects (.readPb 256) locked ∧ rangeRejects (.readPb 257) locked := by
  refine ⟨?_, ?_, ?_, ?_, ?_, ?_, ?_, ?_, ?_, ?_, ?_, ?_⟩ <;> simp only [rangeRejects, isRegisterNumber] <;>
    decide +kernel

theorem witness_RejectedCommandHasNoEffect :
    rangeRejects (.tbSetDate 2200 (-18) 604800) locked ∧
      (locked.present 0x53_00000000_00000001).build.legal = true ∧
      (locked.present 0x53_00000000_00000001).pending = [⟨0x53_00000000_00000001, ⟨[], none⟩⟩] ∧
      decode 0x53_00000000_00000001 = .error (.reservedOpcode 0x53) := by
  refine ⟨?_, by decide +kernel⟩
  simp only [rangeRejects]; decide

theorem witness_PowerOnMeetsInvariants : Build.standard.legal = true ∧ Build.standard.fits = true := by decide +kernel

theorem witness_StepKeepsInvariants :
    ∃ t, (locked.present 0x12_000000A0_00000000).build.fits = true ∧
      (locked.present 0x12_000000A0_00000000).Inv ∧ step (locked.present 0x12_000000A0_00000000) = .next t := by
  obtain ⟨t, ht⟩ := completes_spec (o := step (locked.present 0x12_000000A0_00000000)) (by decide +kernel)
  exact ⟨t, by decide +kernel, inv_of_checks (by decide +kernel), ht⟩

theorem witness_StepKeepsRanges :
    ∃ t, Sound (locked.present 0x30_00000000_00000000) ∧ step (locked.present 0x30_00000000_00000000) = .next t := by
  obtain ⟨t, ht⟩ := completes_spec (o := step (locked.present 0x30_00000000_00000000)) (by decide +kernel)
  exact ⟨t, sound_of_checks (by decide +kernel), ht⟩

/-- One command changes each part of the state. -/
theorem witness_OnlyItsWritersChangeState :
    nextThat (exec .tbAdvance locked) (fun t => decide (t.tb ≠ locked.tb)) = true ∧
    nextThat (exec (.gpsFeed 0xA0) locked) (fun t => decide (t.gd ≠ locked.gd)) = true ∧
    nextThat (exec (.hmSetOsc 0) locked) (fun t => decide (t.hm ≠ locked.hm)) = true ∧
    nextThat (exec (.cdStep 6 true) locked)
      (fun t => decide (t.cd ≠ locked.cd ∧ Cells.read t.ph 1 ≠ Cells.read locked.ph 1)) = true ∧
    nextThat (exec (.ppsCapture 7) locked) (fun t => decide (t.sys ≠ locked.sys)) = true ∧
    nextThat (exec (.cfgWrite 0x0506 0) locked) (fun t => decide (t.cfg ≠ locked.cfg)) = true ∧
    nextThat (exec (.gpsFeed 9) { locked with gd := { locked.gd with state := 4, len := 3 } })
      (fun t => decide (Cells.read t.pb 0 ≠ Cells.read locked.pb 0)) = true := by decide +kernel

theorem witness_StoresAreTouchedOnce :
    (Memory.wf locked.pb = true ∧ Cells.wf locked.ph = true) ∧ completes (exec (.gpsFeed 0xA0) locked) = true ∧
      completes (exec .secondTick locked) = true ∧ completes (exec (.cdStep 6 true) locked) = true := by decide +kernel

/-- Each branch of R77 at its bound, in a week of R9's length. -/
theorem witness_SetDateBorrowsAndCarries :
    (604800 = locked.build.weekSeconds ∧ 2 ^ 15 ≤ 604800 ∧ 604800 ≤ 2 ^ 32) ∧
    ((0 : Nat) < 2 ^ 16 ∧ (-2 ^ 15 : Int) ≤ -1 ∧ (-1 : Int) < 2 ^ 15 ∧ (0 : Nat) < 604800 ∧ ((0 : Nat) : Int) + -1 < 0) ∧
    ((65535 : Nat) < 2 ^ 16 ∧ (18 : Nat) < 604800 ∧ 0 ≤ ((18 : Nat) : Int) + -18) ∧
    ((604799 : Nat) < 604800 ∧ ((604799 : Nat) : Int) + 0 < 604800) ∧
    ((1 : Int) < 2 ^ 15 ∧ 604800 ≤ ((604799 : Nat) : Int) + 1) := by decide +kernel

/-- The first tow, and the first tick, that is rejected. -/
theorem witness_rejected_operands : locked.build.weekSeconds ≤ 604800 ∧ locked.build.tickHz ≤ 10000000 := by decide

/-- A word of every opcode whose decoding a statement about a command states. -/
theorem witness_encoding_clauses :
    ∀ op ∈ [0x01, 0x11, 0x20, 0x21, 0x22, 0x23, 0x24, 0x25, 0x34, 0x35, 0x37, 0x38],
      (opField (BitVec.ofNat 72 (op * 2 ^ 64 + 0xFFFFFFFFFFFFFFFF))).toNat = op := by decide +kernel

theorem witness_AdvanceCountsOneSecond :
    locked.build.weekSeconds ≤ 2 ^ 32 ∧ { locked with tb := ⟨7, 604798, true⟩ }.tb.tow.toNat + 1 < locked.build.weekSeconds ∧
      { locked with tb := ⟨65535, 604799, true⟩ }.tb.tow.toNat + 1 = locked.build.weekSeconds := by decide

/-- The hypothesis on the week's length, also that of UnixTimeAndDate. -/
theorem witness_UnixTimeAndDate : locked.build.weekSeconds ≤ 2 ^ 32 := by decide

/-- Exactly half a second, which does not fold, and the first tick beyond it (TK4, TK5). -/
theorem witness_TickToNanoseconds :
    locked.cfg.phaseFudgeNs.toInt.natAbs ≤ 500000000 ∧
    (5000000 < locked.build.tickHz ∧ (500000000 : Int) * locked.build.tickHz ≤ (5000000 : Nat) * 10 ^ 9 ∧
      500000000 + locked.cfg.phaseFudgeNs.toInt ≤ 500000000) ∧
    (5000001 < locked.build.tickHz ∧ (500000100 : Int) * locked.build.tickHz ≤ (5000001 : Nat) * 10 ^ 9 ∧
      500000000 < 500000100 + locked.cfg.phaseFudgeNs.toInt) := by decide +kernel

theorem witness_NtpTimestamp :
    9999999 < locked.build.tickHz ∧ (-2 ^ 31 : Int) ≤ -2 ^ 31 ∧ (2 ^ 31 - 1 : Int) < 2 ^ 31 := by decide

theorem witness_AdvanceIsMonotone :
    { locked with tb := ⟨2926, 368895, true⟩ }.tb.tow.toNat < locked.build.weekSeconds ∧
      locked.build.weekSeconds ≤ 2 ^ 32 ∧ 1 ≤ locked.build.tickHz ∧
      completes (exec .tbAdvance { locked with tb := ⟨2926, 368895, true⟩ }) = true := by decide +kernel

/-- A state for each row of R125's table, and for no row. -/
theorem witness_UpdateTakesTheFirstRow :
    ((health .ok .ok .unlock .ok .ok).gps = .unlock ∧ (health .ok .ok .unlock .ok .ok).fll = .ok) ∧
    ((health .ok .ok .unlock .ok .unlock).gps = .unlock ∧ (health .ok .ok .unlock .ok .unlock).fll ≠ .ok) ∧
    (health .ok .unlock .minorAlarm .unlock .unlock).gps ≠ .unlock ∧
    (health .holdover .ok .ok .ok .unlock).fll = .unlock ∧
    ((health .holdover .ok .ok .unlock .ok).fll ≠ .unlock ∧ (health .holdover .ok .ok .unlock .ok).pll = .unlock) ∧
    ((health .unlock .ok .ok .ok .unlock).pll = .ok ∧ (health .unlock .ok .ok .ok .unlock).gps = .ok ∧
      (health .unlock .ok .ok .ok .unlock).osc = .ok) ∧
    ((health .holdover .ok .minorAlarm .ok .ok).gps ≠ .ok ∧ (health .holdover .ok .minorAlarm .ok .ok).pll ≠ .unlock ∧
      (health .holdover .ok .minorAlarm .ok .ok).osc ≠ .unlock) := by decide

/-- From UNLOCK and from HOLDOVER. -/
theorem witness_EnteringOk :
    ∀ before ∈ [SystemStatus.unlock, .holdover],
      let s := { locked with hm := health before .ok .ok .ok .ok }
      s.build.weekSeconds ≤ 2 ^ 32 ∧ s.hm.system ≠ .ok ∧ s.hm.pll = .ok ∧ s.hm.gps = .ok ∧ s.hm.osc = .ok ∧
        ¬ (s.hm.system = .holdover ∧ s.hm.fll = .unlock) ∧ s.hm.system = before := by decide

theorem witness_EnteringHoldover :
    let s := { locked with hm := health .ok .ok .unlock .ok .ok }
    s.build.weekSeconds ≤ 2 ^ 32 ∧ s.hm.system = .ok ∧ s.hm.gps = .unlock ∧ s.hm.fll = .ok := by decide

theorem witness_EnteringUnlock :
    let s1 := { locked with hm := health .ok .ok .unlock .ok .unlock }
    let s2 := { locked with hm := health .holdover .ok .unlock .ok .unlock }
    let s3 := { locked with hm := health .holdover .ok .unlock .unlock .ok }
    let s4 := { locked with hm := health .holdover .unlock .unlock .ok .ok }
    (s1.hm.system = .ok ∧ s1.hm.gps = .unlock ∧ s1.hm.fll ≠ .ok) ∧ (s2.hm.system = .holdover ∧ s2.hm.fll = .unlock) ∧
      (s3.hm.system = .holdover ∧ s3.hm.pll = .unlock) ∧ (s4.hm.system = .holdover ∧ s4.hm.osc = .unlock) := by decide

theorem witness_SettersUpdate :
    ∀ c ∈ [0, 1, 2], ∃ x : SubStatus, x = (if c = 0 then .unlock else if c = 1 then .ok else .minorAlarm) ∧ c ≤ 2 :=
  fun c hc => ⟨_, rfl, by revert c; decide⟩

theorem witness_HoldoverOnlyFromOk :
    locked.hm.system ≠ .holdover ∧
      nextThat (exec (.hmSetGps 0) locked) (fun t => decide (t.hm.system = .holdover)) = true := by decide +kernel

theorem witness_PpsRegisterIsLastPpsEvent :
    nextThat (exec (.hmSetGps 1) holding) (fun t => decide (t.events = [.ppsEnable])) = true ∧
      nextThat (exec (.hmSetOsc 0) holding) (fun t => decide (t.events = [.ppsDisable])) = true := by decide +kernel

/-- Below, and at, both watchdogs' limits. -/
theorem witness_TickAgesAndUpdates :
    locked.sys.pendingValid = false ∧
      locked.hm.gpsWdt.toNat + 1 < locked.build.gpsWdtLimit ∧
      let s := { locked with hm := { locked.hm with gpsWdt := 2, fllWdt := 86399 } }
      s.sys.pendingValid = false ∧ s.build.gpsWdtLimit ≤ s.hm.gpsWdt.toNat + 1 ∧
        s.build.fllWdtLimit ≤ s.hm.fllWdt.toNat + 1 := by decide +kernel

/-- The discipline disabled; and HOLDOVER. -/
theorem witness_TickGateRefuses :
    let s := { locked with sys := ⟨true, 6⟩, cfg := { locked.cfg with disciplineEnable := false } }
    (s.sys.pendingValid = true ∧ s.cfg.disciplineEnable = false ∧
      completes (exec .secondTick { s with sys := { s.sys with pendingValid := false } }) = true) ∧
    nextThat (exec .secondTick { holding with sys := ⟨false, 6⟩ }) (fun v => decide (v.hm.system = .holdover)) = true := by decide +kernel

/-- A gated step, and one that runs. -/
theorem witness_GatedStepOnlyCounts : completes (exec (.cdStep 6 true) holding) = true := by decide +kernel

/-- In OK; and in UNLOCK with Gps and Osc good, where the aging makes no transition; and where it makes one. -/
theorem witness_TickRunsTheStep :
    ∀ h ∈ [health .ok .ok .ok .ok .ok, health .unlock .ok .ok .unlock .unlock, health .unlock .ok .ok .ok .ok],
      let s := { locked with sys := ⟨true, 6⟩, hm := h }
      s.sys.pendingValid = true ∧ s.cfg.disciplineEnable = true ∧
        nextThat (exec .secondTick { s with sys := { s.sys with pendingValid := false } })
          (fun v => decide (v.hm.system = .ok ∨ (v.hm.system = .unlock ∧ v.hm.gps = .ok ∧ v.hm.osc = .ok))
            && completes (exec (.cdStep s.sys.pendingPhase.toInt s.gd.fixValid) v)) = true := by decide +kernel

theorem witness_CaptureLatchesPhase :
    9999999 < locked.build.tickHz ∧ locked.cfg.phaseFudgeNs.toInt.natAbs ≤ 500000000 ∧
      { locked with sys := ⟨true, 6⟩ }.sys.pendingValid = true ∧
      completes (exec (.cfgWrite 0x0507 1) { locked with sys := ⟨true, 6⟩ }) = true := by decide +kernel

/-- The smallest jump there is, the counter one below JUMP_CAP. -/
theorem witness_SpikeIsAbsorbed :
    let s := withCd (fun c => { c with jumpCounter := 4 })
    s.cd.prevValid = true ∧ 1 ≤ s.build.jumpThresholdNs ∧
      s.build.jumpThresholdNs ≤ ((1005 : Int) - s.cd.prevPhase.toInt).natAbs ∧
      s.cd.jumpCounter.toNat < s.build.jumpCap ∧ s.cd.prevPhase.toInt.natAbs ≤ s.build.resyncPhaseNs ∧
      (s.hm.system = .ok → s.hm.gps ≠ .unlock) ∧
      completes (exec (.cdStep s.cd.prevPhase.toInt true) s) = true := by decide +kernel

/-- The largest move that is no jump, and the first sample of all. -/
theorem witness_JumpFilterAccepts_plain :
    Sound locked ∧ ((1004 : Int) - locked.cd.prevPhase.toInt).natAbs < locked.build.jumpThresholdNs ∧
      (1004 : Int).natAbs ≤ locked.build.resyncPhaseNs ∧
      ((1004 : Int) - locked.cd.prevPhase.toInt).natAbs ≤ locked.build.resyncJumpNs ∧
      Sound fresh ∧ fresh.cd.prevValid = false ∧ (100000 : Int).natAbs ≤ fresh.build.resyncPhaseNs :=
  ⟨locked_sound, by decide +kernel, by decide +kernel, by decide +kernel, fresh_sound, by decide +kernel, by decide +kernel⟩

/-- The smallest jump, with the counter below JUMP_CAP and at it. -/
theorem witness_JumpFilterAccepts_jump :
    (Sound (withCd (fun c => { c with jumpCounter := 4 })) ∧
      locked.build.jumpThresholdNs ≤ ((1005 : Int) - locked.cd.prevPhase.toInt).natAbs ∧ 4 < locked.build.jumpCap ∧
      locked.cd.prevPhase.toInt.natAbs ≤ locked.build.resyncPhaseNs) ∧
    Sound (withCd (fun c => { c with jumpCounter := 5 })) ∧ locked.build.jumpCap = 5 ∧
      (10005 : Int).natAbs ≤ locked.build.resyncPhaseNs ∧
      ((10005 : Int) - locked.cd.prevPhase.toInt).natAbs ≤ locked.build.resyncJumpNs :=
  ⟨⟨sound_of_checks (by decide +kernel), by decide +kernel, by decide +kernel, by decide +kernel⟩,
    sound_of_checks (by decide +kernel), by decide +kernel, by decide +kernel, by decide +kernel⟩

/-- The first sample one beyond RESYNC_PHASE_NS, in UNLOCK and in HOLDOVER; and a jump let through one beyond
RESYNC_JUMP_NS. -/
theorem witness_ResyncResetsTheDiscipline :
    (fresh.Inv ∧ fresh.cd.prevValid = false ∧ fresh.build.resyncPhaseNs < (100001 : Int).natAbs) ∧
    (holding.Inv ∧ holding.hm.system = .holdover) ∧
    (withCd (fun c => { c with jumpCounter := 5 })).Inv ∧ locked.build.jumpCap = 5 ∧ locked.cd.prevValid = true ∧
      locked.build.resyncJumpNs < ((10006 : Int) - locked.cd.prevPhase.toInt).natAbs :=
  ⟨⟨fresh_sound.inv, by decide, by decide⟩, ⟨holding_sound.inv, by decide⟩, inv_of_checks (by decide +kernel),
    by decide +kernel, by decide +kernel, by decide +kernel⟩

/-- The three samples a step accepts: one that is no jump, the longest jump let through, and a jump that the previous
sample stands in for. -/
def acceptedSamples : List (Byte × Int × Int) := [(0, 1004, 1004), (5, 10005, 10005), (4, 1005, 5)]

/-- The last step before the settling period has passed, the filter in use, for each accepted sample. -/
theorem witness_StepBeforeSettling :
    ∀ x ∈ acceptedSamples,
      let s := withCd (fun c => { c with secondsSinceReset := 179, jumpCounter := x.1 })
      Sound s ∧ s.Accepts x.2.1 x.2.2 ∧ s.cd.secondsSinceReset.toNat < s.build.fllSettleS ∧ s.cd.filtValid = true := by
  intro x hx
  simp only [acceptedSamples, List.mem_cons, List.not_mem_nil, or_false] at hx
  rcases hx with rfl | rfl | rfl <;>
    exact ⟨sound_of_checks (by decide +kernel), by simp only [State.Accepts]; decide +kernel, by decide +kernel, by decide +kernel⟩

/-- The first sample of all, the filter empty. -/
theorem witness_StepBeforeSettling_first :
    Sound fresh ∧ fresh.Accepts 100000 100000 ∧ ∃ dv q f acc slew : Int,
      fresh.cd.secondsSinceReset.toNat < fresh.build.fllSettleS ∧
      dv = clamp fresh.cd.pllFactor.toNat fresh.build.filtDivMin fresh.build.filtDivMax ∧ fresh.cd.filtValid = false ∧
      q = 100000 * 2 ^ fresh.build.filtFracBits ∧ f = tdiv q (2 ^ fresh.build.filtFracBits) ∧
      acc = fresh.cd.pllAcc.toInt - 1000 * f ∧ slew = tdiv acc fresh.cd.pllFactor.toNat :=
  ⟨fresh_sound, by simp only [State.Accepts]; decide +kernel, _, _, _, _, _, by decide +kernel, rfl, by decide +kernel,
    rfl, rfl, rfl, rfl⟩

/-- The first step after the settling period, for each accepted sample. -/
theorem witness_StepWithFll :
    ∀ x ∈ acceptedSamples,
      let s := withCd (fun c => { c with secondsSinceReset := 180, jumpCounter := x.1 })
      Sound s ∧ s.Accepts x.2.1 x.2.2 ∧ s.build.fllSettleS ≤ s.cd.secondsSinceReset.toNat ∧ s.cd.filtValid = true := by
  intro x hx
  simp only [acceptedSamples, List.mem_cons, List.not_mem_nil, or_false] at hx
  rcases hx with rfl | rfl | rfl <;>
    exact ⟨sound_of_checks (by decide +kernel), by simp only [State.Accepts]; decide +kernel, by decide +kernel, by decide +kernel⟩

/-- The locked block in HOLDOVER with Gps good again, so that a step may leave HOLDOVER for OK. -/
def recovering : State := { locked with hm := health .holdover .ok .ok .ok .ok }

/-- In OK; in HOLDOVER, which the step does not leave; and in HOLDOVER, which it leaves for OK. -/
theorem witness_StepKeepsAccumulatorBounds :
    ∀ s ∈ [locked, holding, recovering],
      Sound s ∧ s.cd.fllAcc.toInt.natAbs < s.cd.fllFactor.toNat * s.build.fllSmoothing := by
  intro s hs
  simp only [List.mem_cons, List.not_mem_nil, or_false] at hs
  rcases hs with rfl | rfl | rfl <;> exact ⟨sound_of_checks (by decide +kernel), by decide +kernel⟩

theorem witness_AnnealsInStep :
    (∃ t, exec (.cdStep 6 true) recovering = .next t ∧ t.cd.prevValid = true ∧ recovering.AnnealsInStep t ∧
      t.hm.system = .ok) ∧
    (∃ t, exec (.cdStep 6 true) holding = .next t ∧ t.cd.prevValid = true ∧ ¬ holding.AnnealsInStep t) := by
  obtain ⟨t, ht⟩ := completes_spec (o := exec (.cdStep 6 true) recovering) (by decide +kernel)
  obtain ⟨u, hu⟩ := completes_spec (o := exec (.cdStep 6 true) holding) (by decide +kernel)
  have h1 : nextThat (exec (.cdStep 6 true) recovering)
      (fun t => decide (t.cd.prevValid = true ∧ t.hm.pll = .ok ∧ t.hm.system = .ok)) = true := by decide +kernel
  have h2 : nextThat (exec (.cdStep 6 true) holding) (fun t => decide (t.cd.prevValid = true)) = true := by decide +kernel
  rw [ht] at h1
  rw [hu] at h2
  simp only [nextThat, decide_eq_true_eq] at h1 h2
  refine ⟨⟨t, ht, h1.1, ⟨by decide, by decide, by decide, by decide, h1.2.1⟩, h1.2.2⟩, ⟨u, hu, h2, ?_⟩⟩
  exact fun h => absurd h.2.2.1 (by decide)

/-- A healthy sample one step before both ramps reach their intervals, and at it, in OK and in HOLDOVER; an unhealthy
one; and one before the settling period has passed. -/
theorem witness_RampsRaiseFactors :
    (∀ s ∈ [withCd (fun c => { c with pllRamp := 2, fllRamp := 14 }), withCd (fun c => { c with pllRamp := 3, fllRamp := 15 }),
        withCd (fun c => { c with secondsSinceReset := 179 }), holding, recovering],
      Sound s ∧
        nextThat (exec (.cdStep 6 true) s)
          (fun t => decide (t.cd.prevValid = true ∧ t.cd.filtered.toInt.natAbs ≤ s.build.pllHealthyNs)) = true) ∧
    nextThat (exec (.cdStep 100000 true) fresh)
      (fun t => decide (t.cd.prevValid = true ∧ fresh.build.pllHealthyNs < t.cd.filtered.toInt.natAbs)) = true := by
  refine ⟨?_, by decide +kernel⟩
  intro s hs
  simp only [List.mem_cons, List.not_mem_nil, or_false] at hs
  rcases hs with rfl | rfl | rfl | rfl | rfl <;> exact ⟨sound_of_checks (by decide +kernel), by decide +kernel⟩

/-- Both locks good, and both not. -/
theorem witness_LockEvaluationReports :
    (Sound locked ∧ nextThat (exec (.cdStep 6 true) locked)
      (fun t => decide (t.cd.prevValid = true ∧ t.hm.pll = .ok ∧ t.hm.fll = .ok)) = true) ∧
    Sound fresh ∧ nextThat (exec (.cdStep 6 true) fresh)
      (fun t => decide (t.cd.prevValid = true ∧ t.hm.pll = .unlock ∧ t.hm.fll = .unlock)) = true :=
  ⟨⟨locked_sound, by decide +kernel⟩, fresh_sound, by decide +kernel⟩

/-- The step at which Pll locks takes UNLOCK to OK, with PPS_ENABLE after the rate command (R155). -/
theorem witness_LockEvaluationReports_enters_ok :
    let s := { locked with hm := health .unlock .ok .ok .unlock .unlock }
    Sound s ∧ nextThat (exec (.cdStep 6 true) s) (fun t => decide (t.cd.prevValid = true ∧ t.hm.system = .ok ∧
      t.hm.ppsEnabled = true ∧ t.events.drop 2 = [.ppsEnable])) = true :=
  ⟨sound_of_checks (by decide +kernel), by decide +kernel⟩

/-- The history one entry short of full, and full. -/
theorem witness_HistoryIsPushed :
    ∀ n ∈ [15, 16],
      (withCd (fun c => { c with histHead := 15, histCount := BitVec.ofNat 8 n })).Inv ∧
      nextThat (exec (.cdStep 6 true) (withCd (fun c => { c with histHead := 15, histCount := BitVec.ofNat 8 n })))
        (fun t => decide (t.cd.prevValid = true ∧ 14 + 1 < t.cd.histCount.toNat)) = true := by
  intro n hn
  simp only [List.mem_cons, List.not_mem_nil, or_false] at hn
  rcases hn with rfl | rfl <;> exact ⟨inv_of_checks (by decide +kernel), by decide +kernel⟩

theorem witness_RateRequestsAreBounded :
    (locked.hm.system = .ok → locked.hm.gps ≠ .unlock) ∧ completes (exec (.hmSetGps 0) locked) = true ∧
      completes (exec (.cdStep 6 true) locked) = true := by decide +kernel

/-- A holdover of no second, of one, and longer than HOLDOVER_ANNEAL_S. -/
theorem witness_LeaveHoldoverAnneals :
    1 ≤ locked.build.holdoverAnnealS ∧ locked.cfg.pllFactorMin.toNat < locked.cd.pllFactor.toNat ∧
      locked.cfg.fllFactorMin.toNat < locked.cd.fllFactor.toNat ∧
      0 = min 0 locked.build.holdoverAnnealS ∧ 1 = min 1 locked.build.holdoverAnnealS ∧
      86400 = min 1000000 locked.build.holdoverAnnealS ∧ completes (exec .cdEnterHoldover locked) = true := by
  decide +kernel

theorem witness_CfgWriteClamps :
    (locked.build.fits = true ∧ locked.Inv) ∧ (0x7FFFFFFF : Nat) < 2 ^ 31 ∧ (0xFFFFFFFF : Nat) < 2 ^ 32 ∧
      ¬ (0xFFFFFFFF : Nat) < 2 ^ 31 :=
  ⟨⟨by decide +kernel, locked_sound.inv⟩, by decide, by decide, by decide⟩

theorem witness_ReadOutReturnsTheState : 256 ≤ locked.build.maxPayload := by decide

/-- A frame with no payload and the longest one, for each protocol. -/
theorem witness_FramesAreDispatched :
    ∀ p ∈ [Protocol.sirf, .tsip, .ubx], ∀ payload ∈ [[], List.replicate 256 (0x10 : Byte)],
      let s := { fresh with build := { fresh.build with protocol := p } }
      s.build.protocol = p ∧ s.build.maxPayload < 2 ^ 16 - 1 ∧ Memory.wf s.pb = true ∧ s.gd.state = 0 ∧
        payload.length ≤ s.build.maxPayload ∧ payload.length < 2 ^ 15 ∧ (0x8F : Byte) ≠ 0x10 ∧ (0x8F : Byte) ≠ 0x03 := by
  decide +kernel

/-- FR7's length bytes: bit 15 set. -/
theorem witness_SirfFrameIsDispatched_bit15 :
    bigEndian16 (2 ^ 15 + 0x13) = [0x80, 0x13] ∧ 0x13 ≤ fresh.build.maxPayload ∧ fresh.gd.state = 0 := by decide +kernel

/-- FR18: a TSIP frame with no byte after its id. -/
theorem witness_CorruptedUbxAndTsipFramesAreCounted_empty :
    let s := { fresh with build := { fresh.build with protocol := .tsip } }
    s.build.protocol = .tsip ∧ s.build.tsipChecksum = .add8 ∧ s.gd.state = 0 ∧ (0x8F : Byte) ≠ 0x10 ∧ (0x8F : Byte) ≠ 0x03 ∧
      nextThat (feedAll [0x10, 0x8F, 0x10, 0x03] s) (fun t => decide (t.gd.cksErr = 1 ∧ t.gd.good = 0)) = true := by
  decide +kernel

/-- The last payload byte of SIRF7's first three, and each checksum byte. -/
theorem witness_CorruptedSirfFrameIsCounted :
    (fresh.build.protocol = .sirf ∧ fresh.build.maxPayload < 2 ^ 16 - 1 ∧ Memory.wf fresh.pb = true ∧ fresh.gd.state = 0) ∧
    (2 < ([7, 8, 0x98] : List Byte).length ∧ ([7, 8, 0x98] : List Byte)[2]? ≠ some 1) ∧
    (bigEndian16 (cksSirf [7, 8, 0x98]))[0]? ≠ some 1 ∧ (bigEndian16 (cksSirf [7, 8, 0x98]))[1]? ≠ some 1 := by
  decide +kernel

/-- Every SIRF and UBX state and byte of the framing clauses: the byte that starts a frame, and one that does not. -/
theorem witness_unframed_bytes_sirf_ubx :
    let s (st : Byte) := { fresh with gd := { fresh.gd with state := st } }
    let u (st : Byte) := { s st with build := { fresh.build with protocol := .ubx } }
    ∀ b ∈ [(0xA0 : Byte), 0xB5, 0x00],
      ((s 0).build.protocol = .sirf ∧ (s 0).gd.state = 0) ∧ ((s 1).gd.state = 1 ∧ b ≠ 0xA2) ∧ ((s 7).gd.state = 7 ∧ b ≠ 0xB0) ∧
        ((s 8).gd.state = 8 ∧ b ≠ 0xB3) ∧ ((u 0).build.protocol = .ubx ∧ (u 0).gd.state = 0) ∧ (u 1).gd.state = 1 ∧ b ≠ 0x62 := by
  decide +kernel

/-- Every TSIP state of the framing clauses. -/
theorem witness_unframed_bytes_tsip :
    let u (st : Byte) := { fresh with build := { fresh.build with protocol := .tsip }, gd := { fresh.gd with state := st } }
    ((u 0).build.protocol = .tsip ∧ (u 0).gd.state = 0 ∧ (0x03 : Byte) ≠ 0x10) ∧
      ((u 1).gd.state = 1 ∧ ((0x10 : Byte) = 0x10 ∨ (0x10 : Byte) = 0x03) ∧ ((0x03 : Byte) = 0x10 ∨ (0x03 : Byte) = 0x03)) ∧
      ((u 3).gd.state = 3 ∧ (0x8F : Byte) ≠ 0x10 ∧ (0x8F : Byte) ≠ 0x03) := by decide +kernel

/-- A UBX class, id, payload and checksum byte, and a TSIP data and checksum byte, each with another value. -/
theorem witness_CorruptedUbxAndTsipFramesAreCounted :
    let u := { fresh with build := { fresh.build with protocol := .ubx } }
    let t := { fresh with build := { fresh.build with protocol := .tsip } }
    (u.build.maxPayload < 2 ^ 16 - 1 ∧ Memory.wf u.pb = true ∧ u.gd.state = 0 ∧ (0x0D : Byte) ≠ 0x01 ∧
      (0x21 : Byte) ≠ 0x20 ∧ ([1, 2] : List Byte)[1]? ≠ some 3 ∧ ((0, 0) : Byte × Byte) ≠ fletcher (ubxCovered 1 0x20 [1, 2])) ∧
    (t.build.tsipChecksum = .add8 ∧ (0x8E : Byte) ≠ 0x8F ∧ (0x8E : Byte) ≠ 0x10 ∧ (0x8E : Byte) ≠ 0x03 ∧ t.build.maxPayload < 2 ^ 16 - 1 ∧ t.gd.state = 0 ∧
      ([1, 2] ++ [cksTsip 0x8F [1, 2]])[1]? ≠ some 3 ∧ ([1, 2] ++ [cksTsip 0x8F [1, 2]])[1]? ≠ some 0x10 ∧
      ([1, 2] ++ [cksTsip 0x8F [1, 2]])[2]? ≠ some 3 ∧ ([1, 2] ++ [cksTsip 0x8F [1, 2]])[2]? ≠ some 0x10 ∧
      (3 : Byte) ≠ 0x10) := by decide +kernel

/-- The shortest over-length frame, and the longest that can be declared. -/
theorem witness_OverLengthFramesAreDrained :
    fresh.build.protocol = .sirf ∧ { fresh with build := { fresh.build with protocol := .ubx } }.gd.state = 0 ∧
      fresh.build.maxPayload < 257 ∧ (List.replicate 261 (0 : Byte)).length = 257 + 4 ∧
      (List.replicate 259 (0 : Byte)).length = 257 + 2 ∧ (32767 : Nat) < 2 ^ 15 ∧ (65535 : Nat) < 2 ^ 16 := by
  decide +kernel

/-- The shortest TSIP frame that overflows, with each checksum setting. -/
theorem witness_OverLengthFramesAreDrained_tsip :
    ∀ x ∈ [(TsipChecksum.add8, 258), (TsipChecksum.none, 257)],
      let s := { fresh with build := { fresh.build with protocol := .tsip, tsipChecksum := x.1 } }
      s.build.protocol = .tsip ∧ s.build.maxPayload < 2 ^ 16 - 1 ∧ Memory.wf s.pb = true ∧ s.gd.state = 0 ∧
        (0x8F : Byte) ≠ 0x10 ∧ (0x8F : Byte) ≠ 0x03 ∧ tsipCap s.build < (List.replicate x.2 (0x10 : Byte)).length := by
  decide +kernel

/-- A timing message that takes UNLOCK to OK, and one that takes OK to HOLDOVER. -/
theorem witness_messages_update :
    let s (h : HealthMonitor) (known : Bool) := { locked with
      hm := h, gd := { locked.gd with utcKnown := known, alarm := .ok }, pb := [(0, 7), (7, 8)] }
    ((dispatch 8 (s (health .unlock .ok .unlock .ok .ok) true)).2 = .fix ∧
      (dispatch 8 (s (health .unlock .ok .unlock .ok .ok) true)).1.hm.system = .ok) ∧
    ((dispatch 8 (s (health .ok .ok .ok .ok .ok) false)).2 = .fix ∧ (s (health .ok .ok .ok .ok .ok) false).oscIdx = 0 ∧
      (dispatch 8 (s (health .ok .ok .ok .ok .ok) false)).1.hm.system = .holdover) := by decide +kernel

/-- A Clock Status message of the least length with a valid time, a 1PPS Time message of the least length, and one
byte short of each. -/
theorem witness_SirfMessages :
    let s := { fresh with gd := { fresh.gd with utcKnown := true }, pb := [(0, 7), (7, 8)] }
    let s' := { fresh with pb := [(0, 52), (14, 7)] }
    (s.build.protocol = .sirf ∧ (Cells.read s.pb 0).toNat = 7 ∧ 0 < (Cells.read s.pb 7).toNat ∧ s.gd.utcKnown = true ∧
      (dispatch 8 s).2 = .fix ∧ (dispatch 7 s).2 = .none) ∧
    ((Cells.read s'.pb 0).toNat = 52 ∧ (dispatch 15 s').2 = .status ∧ (dispatch 14 s').2 = .none) := by decide +kernel

/-- A Primary and a Supplemental Timing packet of the least length, and one byte short of each. -/
theorem witness_TsipMessages :
    let b := { fresh.build with protocol := .tsip }
    let s := { fresh with build := b, gd := { fresh.gd with id := 0x8F }, pb := [(0, 0xAB)] }
    let s' := { fresh with build := b, gd := { fresh.gd with id := 0x8F }, pb := [(0, 0xAC)] }
    ((Cells.read s.pb 0).toNat = 0xAB ∧ (dispatch 10 s).2 = .fix ∧ (dispatch 9 s).2 = .none) ∧
      ((Cells.read s'.pb 0).toNat = 0xAC ∧ (dispatch 13 s').2 = .status ∧ (dispatch 12 s').2 = .none) := by decide +kernel

/-- NAV-TIMEGPS, NAV-STATUS and TIM-SVIN of the least length, and one byte short of each. -/
theorem witness_UbxMessages :
    let b := { fresh.build with protocol := .ubx }
    let s (cls ident : Byte) := { fresh with build := b, gd := { fresh.gd with cls := cls, id := ident }, pb := [(4, 3), (5, 1), (11, 7)] }
    (dispatch 12 (s 1 0x20)).2 = .fix ∧ (dispatch 11 (s 1 0x20)).2 = .none ∧ (dispatch 6 (s 1 3)).2 = .status ∧
      (dispatch 5 (s 1 3)).2 = .none ∧ (dispatch 26 (s 0x0D 4)).2 = .status ∧ (dispatch 25 (s 0x0D 4)).2 = .none := by
  decide +kernel

end Sys2Proof.Tests
end

/-! SUPPORT. The step of the machine: one equation for each of its branches, what taking a request keeps, and the
statements of spec/00_scope.md about it (R9, R17, R20, R47). -/

namespace Sys2Proof.Machine

variable {s : State} {q : Request} {rest : List Request}

/-! ## The branches of the step -/

/-- An instance that breaks R9's constraints has no step (R9; log entry 5). -/
theorem step_of_illegal (hlegal : s.build.legal = false) : step s = .refused .illegalInstance := by
  simp [step, hlegal]

/-- The block waits while no command is presented (log entry 3). -/
theorem step_of_no_pending (hlegal : s.build.legal = true) (hpending : s.pending = []) : step s = .next s := by
  simp [step, hlegal, hpending]

/-- A word that decodes is run in the state in which its request has been accepted (R20, R47). -/
theorem step_of_decode_ok {i : Instr} (hlegal : s.build.legal = true) (hpending : s.pending = q :: rest)
    (hdecode : decode q.word = .ok i) : step s = exec i (s.accept q rest) := by
  simp [step, hlegal, hpending, hdecode]

/-- A word with a reserved opcode is rejected in the state in which its request has been accepted (R56, R172). -/
theorem step_of_decode_reserved {op : Byte} (hlegal : s.build.legal = true) (hpending : s.pending = q :: rest)
    (hdecode : decode q.word = .error (.reservedOpcode op)) :
    step s = .next ((s.accept q rest).reject .errOpcode) := by
  simp [step, hlegal, hpending, hdecode]

/-! ## Taking a request -/

/-- Taking a request touches the host's side of the state only: every register, PB and PH stay (R20; log entry 3). -/
theorem State.keepsBlock_accept (s : State) (q : Request) (rest : List Request) : s.KeepsBlock (s.accept q rest) := by
  simp [State.KeepsBlock]

/-! ## The statements -/

/-- Settles O6: the branch of the step for a word that decodes, with the field equations of `State.accept`. The word
is run whether or not the command is well-formed. -/
theorem stepRunsDecodedCommand : Obligations.StepRunsDecodedCommand := by
  intro s q rest i hlegal hpending hdecode _
  exact ⟨step_of_decode_ok hlegal hpending hdecode, s.keepsBlock_accept q rest, s.accept_build q rest,
    s.accept_pending q rest, s.accept_env q rest, s.accept_cmdIndex q rest⟩

/-- Settles O7: the two branches of the step that run no command. -/
theorem stepWithoutCommand : Obligations.StepWithoutCommand :=
  fun _ => ⟨step_of_no_pending, step_of_illegal⟩

end Sys2Proof.Machine

/-! SUPPORT. The decoder against the encoder: what the operand forms of R53 read back, that a decoded command is
well-formed, and that a well-formed command decodes from its own word (R52, R53, R55). -/

namespace Sys2Proof

open Machine

/-! ## What an operand form reads -/

theorem fitsU32_operandU32 (a : Word) : fitsU32 (operandU32 a) = true := decide_eq_true a.isLt

theorem fitsU16_operandU16 (a : Word) : fitsU16 (operandU16 a) = true := decide_eq_true (a.extractLsb' 0 16).isLt

theorem fitsU8_operandU8 (a : Word) : fitsU8 (operandU8 a) = true := decide_eq_true (a.extractLsb' 0 8).isLt

theorem fitsS32_operandS32 (a : Word) : fitsS32 (operandS32 a) = true :=
  Bool.and_eq_true_iff.mpr ⟨decide_eq_true a.le_toInt, decide_eq_true a.toInt_lt⟩

theorem fitsS16_operandS16H (a : Word) : fitsS16 (operandS16H a) = true :=
  Bool.and_eq_true_iff.mpr
    ⟨decide_eq_true (a.extractLsb' 16 16).le_toInt, decide_eq_true (a.extractLsb' 16 16).toInt_lt⟩

/-- A decoded command is well-formed: each operand form reads a value in its own range (R53). -/
theorem wellFormed_of_decode {w : CmdWord} {i : Instr} (h : decode w = .ok i) : i.wellFormed = true := by
  unfold decode decodeFields at h
  split at h <;> cases h <;>
    simp only [Instr.wellFormed, fitsU32_operandU32, fitsU16_operandU16, fitsU8_operandU8, fitsS32_operandS32,
      fitsS16_operandS16H, Bool.and_self]

/-! ## An operand form reads back what the encoder wrote -/

theorem operandU32_ofNat {v : Nat} (h : fitsU32 v = true) : operandU32 (BitVec.ofNat 32 v) = v := by
  simp only [fitsU32, decide_eq_true_eq] at h
  simp only [operandU32, BitVec.toNat_ofNat, Nat.mod_eq_of_lt h]

theorem operandU16_ofNat {v : Nat} (h : fitsU16 v = true) : operandU16 (BitVec.ofNat 32 v) = v := by
  simp only [fitsU16, decide_eq_true_eq] at h
  simp only [operandU16, BitVec.extractLsb'_toNat, BitVec.toNat_ofNat, Nat.shiftRight_zero]
  omega

theorem operandU8_ofNat {v : Nat} (h : fitsU8 v = true) : operandU8 (BitVec.ofNat 32 v) = v := by
  simp only [fitsU8, decide_eq_true_eq] at h
  simp only [operandU8, BitVec.extractLsb'_toNat, BitVec.toNat_ofNat, Nat.shiftRight_zero]
  omega

theorem operandS32_ofInt {v : Int} (h : fitsS32 v = true) : operandS32 (BitVec.ofInt 32 v) = v := by
  simp only [fitsS32, Bool.and_eq_true, decide_eq_true_eq] at h
  exact toInt_ofInt32 h.1 h.2

theorem operandU16_append {hi : Half} {v : Nat} (h : fitsU16 v = true) :
    operandU16 (hi ++ BitVec.ofNat 16 v) = v := by
  simp only [fitsU16, decide_eq_true_eq] at h
  rw [operandU16, BitVec.extractLsb'_append_eq_right, BitVec.toNat_ofNat, Nat.mod_eq_of_lt h]

theorem operandS16H_append {v : Int} {lo : Half} (h : fitsS16 v = true) :
    operandS16H (BitVec.ofInt 16 v ++ lo) = v := by
  simp only [fitsS16, Bool.and_eq_true, decide_eq_true_eq] at h
  rw [operandS16H, BitVec.extractLsb'_append_eq_left, BitVec.toInt_ofInt]
  exact Int.bmod_eq_of_le (by omega) (by omega)

theorem operandBit0_ite (b : Bool) : operandBit0 (if b = true then 1#32 else 0#32) = b := by cases b <;> rfl

/-- The word of a well-formed command decodes to that command (R52, R53, R55). -/
theorem decode_encode {i : Instr} (h : i.wellFormed = true) : decode (encode i) = .ok i := by
  rw [decode_encode_fields]
  cases i <;> simp only [Instr.wellFormed, Bool.and_eq_true] at h <;>
    simp [decodeFields, Instr.opcode, Instr.encodeA, Instr.encodeB, operandU32_ofNat, operandU16_ofNat,
      operandU8_ofNat, operandS32_ofInt, operandU16_append, operandS16H_append, operandBit0_ite, h]

end Sys2Proof

namespace Sys2Proof.Machine

/-! ## Presenting a word -/

/-- Presented whole, a 72-bit word is what the next step finds (R52; log entries 3 and 11). -/
theorem State.withFetchWord_toNat (s : State) (w : CmdWord) : s.withFetchWord 72 w.toNat = s.present w := by
  rw [State.withFetchWord, Nat.mod_eq_of_lt w.isLt, BitVec.ofNat_toNat, BitVec.setWidth_eq]

/-- Settles O8: the word presented heads the queue and decodes to its command, so the step runs it in the state that
has taken the request, whose registers and stores are those of `s`. -/
theorem fetchWordRuns : Obligations.FetchWordRuns := by
  intro s i hlegal hwf
  let q : Request := ⟨encode i, ⟨[], none⟩⟩
  refine ⟨(s.present (encode i)).accept q s.pending, ?_, ?_, by simp, by simp, by simp⟩
  · rw [State.withFetchWord_toNat]
    exact step_of_decode_ok hlegal (State.present_pending s _) (decode_encode hwf)
  · exact State.keepsBlock_accept (s.present (encode i)) q s.pending

end Sys2Proof.Machine

/-! SUPPORT. The invariants of R37 and R131 cut into one predicate for each unit, so that an operation's proof speaks
of the unit it changes only; and that power-on gives them (R187). -/

namespace Sys2Proof

/-! ## What a legal instance that fits gives -/

section
variable {b : Build}

theorem Build.one_le_holdoverAnnealS (h : b.legal = true) : 1 ≤ b.holdoverAnnealS := by
  simp only [Build.legal, decide_eq_true_eq] at h; omega

theorem Build.one_le_fllSmoothing (h : b.legal = true) : 1 ≤ b.fllSmoothing := by
  simp only [Build.legal, decide_eq_true_eq] at h; omega

theorem Build.phaseHistoryLen_bounds (h : b.legal = true) : 1 ≤ b.phaseHistoryLen ∧ b.phaseHistoryLen ≤ 255 := by
  simp only [Build.legal, decide_eq_true_eq] at h; omega

theorem Build.jumpCap_le (h : b.legal = true) : b.jumpCap ≤ 255 := by
  simp only [Build.legal, decide_eq_true_eq] at h; omega

theorem Build.weekSeconds_bounds (h : b.fits = true) : 2 ^ 15 ≤ b.weekSeconds ∧ b.weekSeconds ≤ 2 ^ 32 := by
  simp only [Build.fits, decide_eq_true_eq] at h; omega

theorem Build.maxPayload_lt (h : b.fits = true) : b.maxPayload < 2 ^ 16 - 1 := by
  simp only [Build.fits, decide_eq_true_eq] at h; omega

theorem Build.factorLimit_bounds (h : b.fits = true) : 1024 ≤ b.factorLimit ∧ b.factorLimit < 2 ^ 16 := by
  simp only [Build.fits, decide_eq_true_eq] at h; omega

theorem Build.fllRateLimit_bounds (h : b.fits = true) : 2000 ≤ b.fllRateLimit ∧ b.fllRateLimit < 2 ^ 31 := by
  simp only [Build.fits, decide_eq_true_eq] at h; omega

theorem Build.phaseFudgeLimit_le (h : b.fits = true) : b.phaseFudgeLimit ≤ 500000000 := by
  simp only [Build.fits, decide_eq_true_eq] at h; omega

end

end Sys2Proof

namespace Sys2Proof.Machine

/-! ## One predicate for each unit -/

/-- R37 for TimeBase. -/
def DateOk (b : Build) (tb : TimeBase) : Prop := tb.tow.toNat < b.weekSeconds

/-- R37 for HealthMonitor, but for its last clause (`GpsNotLost`), which a write of Gps may break until the
HM.update that follows it. -/
structure MonitorOk (hm : HealthMonitor) : Prop where
  pps : hm.ppsEnabled = true ↔ hm.system ≠ .unlock
  osc : hm.osc ≠ .minorAlarm
  pll : hm.pll ≠ .minorAlarm
  fll : hm.fll ≠ .minorAlarm

/-- HM.system = OK implies that Gps is not lost (R131 (a)). -/
def GpsNotLost (hm : HealthMonitor) : Prop := hm.system = .ok → hm.gps ≠ .unlock

/-- The legal values of the configuration (R33). -/
structure ConfigOk (b : Build) (cfg : Configuration) : Prop where
  pllMin : 1 ≤ cfg.pllFactorMin.toNat
  pllMax : cfg.pllFactorMax.toNat ≤ b.factorLimit
  fllMin : 1 ≤ cfg.fllFactorMin.toNat
  fllMax : cfg.fllFactorMax.toNat ≤ b.factorLimit
  rateMax : cfg.fllRateMax.toNat ≤ b.fllRateLimit
  fudge : cfg.phaseFudgeNs.toInt.natAbs ≤ b.phaseFudgeLimit

/-- R37 for ClockDiscipline: factors and rate between their configured bounds, jump counter and ring bounded. -/
structure DisciplineOk (b : Build) (cfg : Configuration) (cd : ClockDiscipline) : Prop where
  pllLow : cfg.pllFactorMin.toNat ≤ cd.pllFactor.toNat
  pllHigh : cd.pllFactor.toNat ≤ cfg.pllFactorMax.toNat
  fllLow : cfg.fllFactorMin.toNat ≤ cd.fllFactor.toNat
  fllHigh : cd.fllFactor.toNat ≤ cfg.fllFactorMax.toNat
  rate : cd.fllRate.toInt.natAbs ≤ cfg.fllRateMax.toNat
  jump : cd.jumpCounter.toNat ≤ b.jumpCap
  histCount : cd.histCount.toNat ≤ b.phaseHistoryLen
  histHead : cd.histHead.toNat < b.phaseHistoryLen

/-- R37 for GpsDecoder and PB: the framing registers agree with the framing state, PB is in form and in bounds. -/
structure DecoderOk (s : State) : Prop where
  idx : s.gd.idx.toNat ≤ s.build.maxPayload + 1
  framing : s.FramingOk
  pbForm : Memory.wf s.pb = true
  pbBelow : Cells.below s.pb (s.build.maxPayload + 1) = true

/-- PH is in canonical form and within its ring (R42). -/
structure RingOk (b : Build) (ph : Ring) : Prop where
  form : Cells.wf ph = true
  below : Cells.below ph b.phaseHistoryLen = true

/-- All of `State.Inv` but `GpsNotLost`: what holds between a setter's write and its HM.update too. -/
structure State.PreInv (s : State) : Prop where
  date : DateOk s.build s.tb
  monitor : MonitorOk s.hm
  config : ConfigOk s.build s.cfg
  discipline : DisciplineOk s.build s.cfg s.cd
  decoder : DecoderOk s
  ring : RingOk s.build s.ph

/-- The unit predicates together are the invariants. -/
theorem State.inv_iff (s : State) : s.Inv ↔ s.PreInv ∧ GpsNotLost s.hm := by
  constructor
  · intro h
    exact ⟨⟨h.tow, ⟨h.pps, h.osc, h.pll, h.fll⟩, ⟨h.pllMin, h.pllMax, h.fllMin, h.fllMax, h.rateMax, h.fudge⟩,
      ⟨h.pllLow, h.pllHigh, h.fllLow, h.fllHigh, h.rate, h.jump, h.histCount, h.histHead⟩,
      ⟨h.idx, h.framing, h.pbForm, h.pbBelow⟩, ⟨h.phForm, h.phBelow⟩⟩, h.okGps⟩
  · rintro ⟨⟨hd, hm, hc, hcd, hg, hr⟩, hgps⟩
    exact ⟨hd, hm.pps, hm.osc, hm.pll, hm.fll, hgps, hc.pllMin, hcd.pllLow, hcd.pllHigh, hc.pllMax, hc.fllMin,
      hcd.fllLow, hcd.fllHigh, hc.fllMax, hc.rateMax, hcd.rate, hc.fudge, hcd.jump, hcd.histCount, hcd.histHead,
      hg.idx, hg.framing, hg.pbForm, hg.pbBelow, hr.form, hr.below⟩

/-! ## One rule for each update -/

section
variable {s t : State}

/-- The decoder's invariants speak of the instance, GpsDecoder and PB only. -/
theorem DecoderOk.congr (h : DecoderOk s) (hb : t.build = s.build) (hg : t.gd = s.gd) (hp : t.pb = s.pb) :
    DecoderOk t := by
  obtain ⟨h1, h2, h3, h4⟩ := h
  unfold State.FramingOk at h2
  rw [← hb, ← hg] at h1 h2
  rw [← hp] at h3 h4
  exact ⟨h1, h2, h3, hb ▸ h4⟩

/-- Invariants carry over to a state that agrees on everything they speak of. -/
theorem State.PreInv.congr (h : s.PreInv) (hb : t.build = s.build) (htb : t.tb = s.tb) (hgd : t.gd = s.gd)
    (hhm : t.hm = s.hm) (hcd : t.cd = s.cd) (hcfg : t.cfg = s.cfg) (hpb : t.pb = s.pb) (hph : t.ph = s.ph) :
    t.PreInv := by
  obtain ⟨h1, h2, h3, h4, h5, h6⟩ := h
  rw [← hb] at h1 h3 h4 h6
  rw [← hcfg] at h3 h4
  exact ⟨htb ▸ h1, hhm ▸ h2, h3, hcd ▸ h4, h5.congr hb hgd hpb, hph ▸ h6⟩

theorem State.Inv.preInv (h : s.Inv) : s.PreInv := (s.inv_iff.mp h).1

theorem State.Inv.gpsNotLost (h : s.Inv) : GpsNotLost s.hm := (s.inv_iff.mp h).2

/-- The invariants do not speak of the pending sample nor of the host's side. -/
theorem State.Inv.congr (h : s.Inv) (hb : t.build = s.build) (htb : t.tb = s.tb) (hgd : t.gd = s.gd)
    (hhm : t.hm = s.hm) (hcd : t.cd = s.cd) (hcfg : t.cfg = s.cfg) (hpb : t.pb = s.pb) (hph : t.ph = s.ph) : t.Inv :=
  t.inv_iff.mpr ⟨h.preInv.congr hb htb hgd hhm hcd hcfg hpb hph, hhm ▸ h.gpsNotLost⟩

end

/-! ## Power-on (R187) -/

theorem State.powerOn_framingOk (b : Build) : (State.powerOn b).FramingOk := by
  unfold State.FramingOk
  split
  · exact ⟨rfl, rfl, rfl, .sync1, rfl, trivial⟩
  · exact ⟨rfl, rfl, rfl, rfl, Nat.zero_le _, .idle, rfl⟩
  · exact ⟨rfl, .sync1, rfl, trivial⟩

theorem State.powerOn_inv {b : Build} (hlegal : b.legal = true) (hfits : b.fits = true) : (State.powerOn b).Inv := by
  have hweek := Build.weekSeconds_bounds hfits
  have hfactor := Build.factorLimit_bounds hfits
  have hrate := Build.fllRateLimit_bounds hfits
  have hring := Build.phaseHistoryLen_bounds hlegal
  rw [State.inv_iff]
  refine ⟨⟨?date, ⟨by simp [State.powerOn], nofun, nofun, nofun⟩, ?config, ?discipline,
    ⟨Nat.zero_le _, State.powerOn_framingOk b, rfl, rfl⟩, rfl, rfl⟩, by intro h; cases h⟩
  case date => change 0 < b.weekSeconds; omega
  case config =>
    exact ⟨(by decide : 1 ≤ Config.pllFactorMin.toNat), hfactor.1, (by decide : 1 ≤ Config.fllFactorMin.toNat),
      Nat.le_trans (by decide : 256 ≤ 1024) hfactor.1, hrate.1, Nat.zero_le _⟩
  case discipline =>
    exact ⟨Nat.le_refl _, (by decide : Config.pllFactorMin.toNat ≤ Config.pllFactorMax.toNat), Nat.le_refl _,
      (by decide : Config.fllFactorMin.toNat ≤ Config.fllFactorMax.toNat), Nat.zero_le _, Nat.zero_le _,
      Nat.zero_le _, hring.1⟩

theorem State.powerOn_bounded {b : Build} (hlegal : b.legal = true) (hfits : b.fits = true) :
    (State.powerOn b).Bounded := by
  have hfactor : 0 < b.factorLimit := by have := Build.factorLimit_bounds hfits; omega
  have hsmoothing : 0 < b.fllSmoothing := Build.one_le_fllSmoothing hlegal
  exact ⟨nofun, fun _ => rfl, nofun, Nat.mul_pos (Nat.succ_pos _) hfactor, Nat.mul_pos hfactor hsmoothing,
    Nat.zero_le _, Nat.zero_le _⟩

/-- Settles O11: each unit's reset values lie within its bounds, whatever the instance; State.reset is one of them. -/
theorem powerOnMeetsInvariants : Obligations.PowerOnMeetsInvariants :=
  have hall (b : Build) (hlegal : b.legal = true) (hfits : b.fits = true) :=
    And.intro (State.powerOn_inv hlegal hfits) (State.powerOn_bounded hlegal hfits)
  ⟨hall, hall Build.standard (by decide) (by decide)⟩

end Sys2Proof.Machine

/-! SUPPORT. TimeBase, HealthMonitor and ClockDiscipline keep the invariants of R37 and R131: one rule for each
operation of R76 to R78, R123 to R129, R142 to R157. -/

namespace Sys2Proof.Machine

variable {s : State}

/-! ## TimeBase (R77, R78) -/

/-- Setting a date within the week, with an offset of at most 2^15 s, stays within the week: one borrow or carry is
enough (R77). -/
theorem tbSetDate_dateOk {tow : Nat} {off : Int} (hfits : s.build.fits = true) (week : Nat)
    (htow : tow < s.build.weekSeconds) (hoff : -2 ^ 15 ≤ off ∧ off ≤ 2 ^ 15) :
    DateOk s.build (tbSetDate week tow off s).tb := by
  have hweek := Build.weekSeconds_bounds hfits
  have hstore (v : Int) (h0 : 0 ≤ v) (h1 : v < s.build.weekSeconds) :
      (BitVec.ofInt 32 v).toNat < s.build.weekSeconds := by
    have := toNat_ofInt (w := 32) h0 (by omega)
    omega
  unfold tbSetDate DateOk
  dsimp only
  split
  · exact hstore _ (by omega) (by omega)
  · split
    · exact hstore _ (by omega) (by omega)
    · exact hstore _ (by omega) (by omega)

theorem tbAdvance_dateOk (hfits : s.build.fits = true) (h : DateOk s.build s.tb) :
    DateOk s.build (tbAdvance s).tb := by
  have hweek := Build.weekSeconds_bounds hfits
  unfold DateOk at h
  unfold tbAdvance DateOk
  dsimp only
  split
  · change 0 < s.build.weekSeconds; omega
  · simp only [State.withTb_tb, BitVec.toNat_ofNat]
    omega

/-- An operation that writes TimeBase only keeps the invariants when the date stays within the week. -/
theorem State.PreInv.of_date {t : State} (h : s.PreInv) (hb : t.build = s.build) (hgd : t.gd = s.gd) (hhm : t.hm = s.hm)
    (hcd : t.cd = s.cd) (hcfg : t.cfg = s.cfg) (hpb : t.pb = s.pb) (hph : t.ph = s.ph) (hdate : DateOk s.build t.tb) :
    t.PreInv :=
  State.PreInv.congr (s := s.withTb t.tb)
    ⟨hdate, h.monitor, h.config, h.discipline, h.decoder.congr rfl rfl rfl, h.ring⟩ hb rfl hgd hhm hcd hcfg hpb hph

theorem tbSetDate_preInv {tow : Nat} {off : Int} (hfits : s.build.fits = true) (week : Nat) (h : s.PreInv)
    (htow : tow < s.build.weekSeconds) (hoff : -2 ^ 15 ≤ off ∧ off ≤ 2 ^ 15) : (tbSetDate week tow off s).PreInv :=
  h.of_date (by simp) (by simp) (by simp) (by simp) (by simp) (by simp) (by simp)
    (tbSetDate_dateOk hfits week htow hoff)

theorem tbAdvance_preInv (hfits : s.build.fits = true) (h : s.PreInv) : (tbAdvance s).PreInv :=
  h.of_date (by simp) (by simp) (by simp) (by simp) (by simp) (by simp) (by simp) (tbAdvance_dateOk hfits h.date)

/-! ## ClockDiscipline, the part HealthMonitor drives (R146, R151, R156, R157) -/

/-- R37's clauses on ClockDiscipline speak of these registers only. -/
theorem DisciplineOk.congr {b : Build} {cfg : Configuration} {c d : ClockDiscipline} (h : DisciplineOk b cfg c)
    (h1 : d.pllFactor = c.pllFactor) (h2 : d.fllFactor = c.fllFactor) (h3 : d.fllRate = c.fllRate)
    (h4 : d.jumpCounter = c.jumpCounter) (h5 : d.histCount = c.histCount) (h6 : d.histHead = c.histHead) :
    DisciplineOk b cfg d := by
  obtain ⟨g1, g2, g3, g4, g5, g6, g7, g8⟩ := h
  exact ⟨h1 ▸ g1, h1 ▸ g2, h2 ▸ g3, h2 ▸ g4, h3 ▸ g5, h4 ▸ g6, h5 ▸ g7, h6 ▸ g8⟩

/-- A discipline reset puts the factors at their minimums or keeps them, and empties the history (R146). -/
theorem disciplineReset_ok (kind : ResetKind) (h : DisciplineOk s.build s.cfg s.cd) :
    DisciplineOk s.build s.cfg (disciplineReset kind s).cd := by
  obtain ⟨g1, g2, g3, g4, g5, -, -, g8⟩ := h
  have hring : 0 < s.build.phaseHistoryLen := Nat.zero_lt_of_lt g8
  cases kind with
  | resync => exact ⟨Nat.le_refl _, g1.trans g2, Nat.le_refl _, g3.trans g4, g5, Nat.zero_le _, Nat.zero_le _, hring⟩
  | holdover => exact ⟨g1, g2, g3, g4, g5, Nat.zero_le _, Nat.zero_le _, hring⟩

theorem cdCommand_ok (rate : Int) (h : DisciplineOk s.build s.cfg s.cd) :
    DisciplineOk s.build s.cfg (cdCommand rate s).1.cd :=
  h.congr rfl rfl rfl rfl rfl rfl

theorem cdEnterHoldover_ok (h : DisciplineOk s.build s.cfg s.cd) :
    DisciplineOk s.build s.cfg (cdEnterHoldover s).cd := by
  have hcommanded := cdCommand_ok s.cd.fllRate.toInt h
  have hreset := disciplineReset_ok .holdover (s := (cdCommand s.cd.fllRate.toInt s).1) (by simpa using hcommanded)
  simpa [cdEnterHoldover] using hreset

/-- Annealing lowers a factor, but not below its minimum (R157). -/
theorem cdLeaveHoldover_ok (hlegal : s.build.legal = true) (d : Nat) (h : DisciplineOk s.build s.cfg s.cd) :
    DisciplineOk s.build s.cfg (cdLeaveHoldover d s).cd := by
  have hA := Build.one_le_holdoverAnnealS hlegal
  obtain ⟨g1, g2, g3, g4, g5, g6, g7, g8⟩ := h
  have hp := annealed_toNat (d := d) hA g1
  have hpb := annealCut_bounds (d := d) hA g1
  have hf := annealed_toNat (d := d) hA g3
  have hfb := annealCut_bounds (d := d) hA g3
  simp only [cdLeaveHoldover, State.withCd_cd]
  exact ⟨by dsimp only; omega, by dsimp only; omega, by dsimp only; omega, by dsimp only; omega, g5, g6, g7, g8⟩

/-! ## HealthMonitor (R123 to R129) -/

theorem hmUpdate_disciplineOk (hlegal : s.build.legal = true) (h : DisciplineOk s.build s.cfg s.cd) :
    DisciplineOk s.build s.cfg (hmUpdate s).cd := by
  rw [hmUpdate_cd]
  split
  · exact h
  · split
    · split
      · exact cdLeaveHoldover_ok hlegal _ h
      · exact h
    · exact cdEnterHoldover_ok h
    · exact h

/-- The PPS output after an update: on exactly outside UNLOCK, since HOLDOVER is entered from OK only (R125 to
R128). -/
theorem hmUpdate_monitorOk (h : MonitorOk s.hm) : MonitorOk (hmUpdate s).hm := by
  obtain ⟨hpps, hosc, hpll, hfll⟩ := h
  rw [hmUpdate_hm]
  refine ⟨?_, hosc, hpll, hfll⟩
  dsimp only
  split
  · next hsame => rw [hsame]; exact hpps
  · next hchanged =>
    cases hT : updateTarget s with
    | ok => simp
    | unlock => simp
    | holdover =>
      obtain ⟨hS, -⟩ | ⟨hS, -⟩ := nextSystem_holdover hT
      · exact absurd (hT.trans hS.symm) hchanged
      · simp [hpps, hS]

/-- After an update, OK means that Gps is not lost, whatever it meant before (R131 (a)). -/
theorem hmUpdate_gpsNotLost (s : State) : GpsNotLost (hmUpdate s).hm := by
  rw [hmUpdate_hm]
  intro hok
  obtain ⟨-, hgps⟩ | ⟨-, -, hgps, -⟩ := nextSystem_ok (show nextSystem _ _ _ _ _ = .ok from hok)
  · exact hgps
  · simp [hgps]

/-- HM.update restores the one clause that a setter's write can break. -/
theorem hmUpdate_inv (hlegal : s.build.legal = true) (h : s.PreInv) : (hmUpdate s).Inv := by
  obtain ⟨h1, h2, h3, h4, h5, h6⟩ := h
  refine (State.inv_iff _).mpr ⟨⟨?_, hmUpdate_monitorOk h2, ?_, ?_, h5.congr ?_ ?_ ?_, ?_⟩, hmUpdate_gpsNotLost s⟩
  case refine_3 => simpa using hmUpdate_disciplineOk hlegal h4
  all_goals simp [h1, h3, h6]

/-- A write to HealthMonitor that keeps its own clauses keeps the rest. -/
theorem State.PreInv.withHm {x : HealthMonitor} (h : s.PreInv) (hx : MonitorOk x) : (s.withHm x).PreInv :=
  ⟨h.date, hx, h.config, h.discipline, h.decoder.congr rfl rfl rfl, h.ring⟩

theorem State.PreInv.withCd {x : ClockDiscipline} (h : s.PreInv) (hx : DisciplineOk s.build s.cfg x) :
    (s.withCd x).PreInv :=
  ⟨h.date, h.monitor, h.config, hx, h.decoder.congr rfl rfl rfl, h.ring⟩

theorem setOscStatus_inv {x : SubStatus} (hlegal : s.build.legal = true) (h : s.PreInv) (hx : x ≠ .minorAlarm) :
    (setOscStatus x s).Inv :=
  hmUpdate_inv (s := s.withHm _) hlegal (h.withHm ⟨h.monitor.pps, hx, h.monitor.pll, h.monitor.fll⟩)

theorem setGpsStatus_inv (x : SubStatus) (hlegal : s.build.legal = true) (h : s.PreInv) : (setGpsStatus x s).Inv :=
  hmUpdate_inv (s := s.withHm _) hlegal (h.withHm ⟨h.monitor.pps, h.monitor.osc, h.monitor.pll, h.monitor.fll⟩)

theorem setPllStatus_inv {x : SubStatus} (hlegal : s.build.legal = true) (h : s.PreInv) (hx : x ≠ .minorAlarm) :
    (setPllStatus x s).Inv :=
  hmUpdate_inv (s := s.withHm _) hlegal (h.withHm ⟨h.monitor.pps, h.monitor.osc, hx, h.monitor.fll⟩)

theorem setFllStatus_inv {x : SubStatus} (hlegal : s.build.legal = true) (h : s.PreInv) (hx : x ≠ .minorAlarm) :
    (setFllStatus x s).Inv :=
  hmUpdate_inv (s := s.withHm _) hlegal (h.withHm ⟨h.monitor.pps, h.monitor.osc, h.monitor.pll, hx⟩)

/-- Aging forces a status to UNLOCK only, then updates (R129). -/
theorem hmAge_inv (hlegal : s.build.legal = true) (h : s.PreInv) : (hmAge s).Inv := by
  refine hmUpdate_inv (s := s.withHm _) hlegal (h.withHm ⟨h.monitor.pps, h.monitor.osc, h.monitor.pll, ?_⟩)
  dsimp only
  split
  · simp
  · exact h.monitor.fll

theorem resetGpsWatchdog_inv (h : s.Inv) : (resetGpsWatchdog s).Inv :=
  (State.inv_iff _).mpr ⟨h.preInv.withHm (x := { s.hm with gpsWdt := 0 })
    ⟨h.preInv.monitor.pps, h.preInv.monitor.osc, h.preInv.monitor.pll, h.preInv.monitor.fll⟩, h.gpsNotLost⟩

theorem resetFllWatchdog_inv (h : s.Inv) : (resetFllWatchdog s).Inv :=
  (State.inv_iff _).mpr ⟨h.preInv.withHm (x := { s.hm with fllWdt := 0 })
    ⟨h.preInv.monitor.pps, h.preInv.monitor.osc, h.preInv.monitor.pll, h.preInv.monitor.fll⟩, h.gpsNotLost⟩

theorem lockStatus_ne_minorAlarm (locked : Bool) : lockStatus locked ≠ .minorAlarm := by cases locked <;> decide

/-- The lock tests report UNLOCK or OK only (R155). -/
theorem lockEvaluation_inv (f : Int) (hlegal : s.build.legal = true) (h : s.PreInv) : (lockEvaluation f s).Inv := by
  unfold lockEvaluation
  dsimp only
  have hlatched : (if pllLocked f s then s.withHm { s.hm with reftime := tbToNtp s 0 0 } else s).PreInv ∧
      (if pllLocked f s then s.withHm { s.hm with reftime := tbToNtp s 0 0 } else s).build = s.build := by
    split
    · exact ⟨h.withHm ⟨h.monitor.pps, h.monitor.osc, h.monitor.pll, h.monitor.fll⟩, rfl⟩
    · exact ⟨h, rfl⟩
  obtain ⟨hpre, hbuild⟩ := hlatched
  have hpll := setPllStatus_inv (hbuild ▸ hlegal) hpre (lockStatus_ne_minorAlarm (pllLocked f s))
  exact setFllStatus_inv (by simpa [hbuild] using hlegal) hpll.preInv (lockStatus_ne_minorAlarm _)

/-! ## ClockDiscipline, the step (R142 to R154) -/

theorem countSkipped_inv (h : s.Inv) : (countSkipped s).Inv :=
  (State.inv_iff _).mpr ⟨h.preInv.withCd (h.preInv.discipline.congr rfl rfl rfl rfl rfl rfl), h.gpsNotLost⟩

/-- The jump counter is raised below JUMP_CAP only (R144). -/
theorem jumpFilter_ok (p : Int) (hlegal : s.build.legal = true) (h : DisciplineOk s.build s.cfg s.cd) :
    DisciplineOk s.build s.cfg (jumpFilter p s).1.cd := by
  have hcap := Build.jumpCap_le hlegal
  obtain ⟨g1, g2, g3, g4, g5, g6, g7, g8⟩ := h
  unfold jumpFilter
  split
  · split
    · refine ⟨g1, g2, g3, g4, g5, ?_, g7, g8⟩
      simp only [State.withCd_cd, BitVec.toNat_ofNat]
      omega
    · exact ⟨g1, g2, g3, g4, g5, g6, g7, g8⟩
  · exact ⟨g1, g2, g3, g4, g5, Nat.zero_le _, g7, g8⟩

/-- An operation of the step that touches ClockDiscipline only keeps the invariants when it keeps R37's clauses on
it. -/
theorem State.PreInv.of_discipline {t : State} (h : s.PreInv) (hb : t.build = s.build) (htb : t.tb = s.tb)
    (hgd : t.gd = s.gd) (hhm : t.hm = s.hm) (hcfg : t.cfg = s.cfg) (hpb : t.pb = s.pb) (hph : t.ph = s.ph)
    (hcd : DisciplineOk s.build s.cfg t.cd) : t.PreInv :=
  (h.withCd hcd).congr hb htb hgd hhm rfl hcfg hpb hph

theorem jumpFilter_preInv (p : Int) (hlegal : s.build.legal = true) (h : s.PreInv) : (jumpFilter p s).1.PreInv :=
  h.of_discipline (by simp) (by simp) (by simp) (by simp) (by simp) (by simp) (by simp)
    (jumpFilter_ok p hlegal h.discipline)

/-- A resync resets the discipline and reports both locks lost (R145). -/
theorem resync_inv (hlegal : s.build.legal = true) (h : s.PreInv) : (resync s).Inv := by
  have hreset := disciplineReset_ok .resync (s := s.emit .forceResync) h.discipline
  have hcounted : (((disciplineReset .resync (s.emit .forceResync))).withCd
      { (disciplineReset .resync (s.emit .forceResync)).cd with
        resyncCount := wrapAdd32 (disciplineReset .resync (s.emit .forceResync)).cd.resyncCount 1 }).PreInv :=
    h.of_discipline rfl rfl rfl rfl rfl rfl rfl (hreset.congr rfl rfl rfl rfl rfl rfl)
  have hpll := setPllStatus_inv (x := .unlock) (by exact hlegal) hcounted (by decide)
  exact setFllStatus_inv (x := .unlock) (by simpa using hlegal) hpll.preInv (by decide)

theorem lowPass_preInv (p : Int) (h : s.PreInv) : (lowPass p s).1.PreInv :=
  h.withCd (h.discipline.congr rfl rfl rfl rfl rfl rfl)

theorem pllSlew_preInv (f : Int) (h : s.PreInv) : (pllSlew f s).1.PreInv :=
  h.withCd (h.discipline.congr rfl rfl rfl rfl rfl rfl)

/-- The FLL leaves its rate within CFG.fll_rate_max (R149). -/
theorem fllUpdate_preInv (p : Int) (hfits : s.build.fits = true) (h : s.PreInv) : (fllUpdate p s).PreInv := by
  have hlimit := Build.fllRateLimit_bounds hfits
  have hmax := h.config.rateMax
  obtain ⟨g1, g2, g3, g4, -, g6, g7, g8⟩ := h.discipline
  refine h.withCd ⟨g1, g2, g3, g4, ?_, g6, g7, g8⟩
  dsimp only
  generalize s.cd.fllRate.toInt + tdiv _ _ = v
  have hv := clamp_bounds (v := v) (lo := -(s.cfg.fllRateMax.toNat : Int)) (hi := s.cfg.fllRateMax.toNat) (by omega)
  rw [toInt_ofInt32 (by omega) (by omega)]
  omega

theorem cdCommand_preInv (rate : Int) (h : s.PreInv) : (cdCommand rate s).1.PreInv :=
  h.of_discipline rfl rfl rfl rfl rfl rfl rfl (cdCommand_ok rate h.discipline)

theorem pllFeedback_preInv (slew realized dither : Int) (h : s.PreInv) :
    (pllFeedback slew realized dither s).PreInv :=
  h.withCd (h.discipline.congr rfl rfl rfl rfl rfl rfl)

/-- A raised factor stays at or below its maximum, and does not fall (R153). -/
theorem raiseFactor_bounds {factor top : Half} (h : factor.toNat ≤ top.toNat) :
    factor.toNat ≤ (raiseFactor factor top).toNat ∧ (raiseFactor factor top).toNat ≤ top.toNat := by
  have := top.isLt
  simp only [raiseFactor, BitVec.toNat_ofNat]
  omega

theorem pllRampStep_preInv (f : Int) (h : s.PreInv) : (pllRampStep f s).PreInv := by
  obtain ⟨g1, g2, g3, g4, g5, g6, g7, g8⟩ := h.discipline
  have hraise := raiseFactor_bounds g2
  unfold pllRampStep
  split
  · dsimp only
    split
    · exact h.withCd ⟨g1.trans hraise.1, hraise.2, g3, g4, g5, g6, g7, g8⟩
    · exact h.withCd ⟨g1, g2, g3, g4, g5, g6, g7, g8⟩
  · exact h.withCd ⟨g1, g2, g3, g4, g5, g6, g7, g8⟩

theorem fllRampStep_preInv (active : Bool) (h : s.PreInv) : (fllRampStep active s).PreInv := by
  obtain ⟨g1, g2, g3, g4, g5, g6, g7, g8⟩ := h.discipline
  have hraise := raiseFactor_bounds g4
  unfold fllRampStep
  split
  · dsimp only
    split
    · exact h.withCd ⟨g1, g2, g3.trans hraise.1, hraise.2, g5, g6, g7, g8⟩
    · exact h.withCd ⟨g1, g2, g3, g4, g5, g6, g7, g8⟩
  · exact h

/-- A push keeps the head in the ring and the count within its length (R42). -/
theorem State.pushPh_preInv (v : Word) (hlegal : s.build.legal = true) (h : s.PreInv) : (s.pushPh v).PreInv := by
  have hring := Build.phaseHistoryLen_bounds hlegal
  obtain ⟨g1, g2, g3, g4, g5, g6, -, g8⟩ := h.discipline
  have hhead : (s.cd.histHead.toNat + 1) % s.build.phaseHistoryLen < s.build.phaseHistoryLen :=
    Nat.mod_lt _ hring.1
  refine ⟨h.date, h.monitor, h.config, ⟨g1, g2, g3, g4, g5, g6, ?_, ?_⟩, h.decoder.congr rfl rfl rfl,
    ⟨Cells.wf_write h.ring.form _ v, Cells.below_write h.ring.below g8 v⟩⟩
  · change (BitVec.ofNat 8 _).toNat ≤ s.build.phaseHistoryLen
    simp only [BitVec.toNat_ofNat]
    omega
  · change (BitVec.ofNat 8 _).toNat < s.build.phaseHistoryLen
    rw [BitVec.toNat_ofNat, Nat.mod_eq_of_lt (by omega)]
    exact hhead

theorem bookkeeping_preInv (p f dither : Int) (hlegal : s.build.legal = true) (h : s.PreInv) :
    (bookkeeping p f dither s).PreInv := by
  have hlatched : (s.withCd { s.cd with prevPhase := BitVec.ofInt 32 p, prevValid := true }).PreInv :=
    h.withCd (h.discipline.congr rfl rfl rfl rfl rfl rfl)
  have hpushed := State.pushPh_preInv (BitVec.ofInt 32 f) (by exact hlegal) hlatched
  exact hpushed.withCd (hpushed.discipline.congr rfl rfl rfl rfl rfl rfl)

/-- The steering part of a step keeps the invariants, each of its operations in turn (R142). -/
theorem steer_inv (p : Int) (hlegal : s.build.legal = true) (hfits : s.build.fits = true) (h : s.PreInv) :
    (steer p s).Inv := by
  have hslewed := pllSlew_preInv (lowPass p s).2 (lowPass_preInv p h)
  have hlearned : (if fllActive s then fllUpdate p (pllSlew (lowPass p s).2 (lowPass p s).1).1
      else (pllSlew (lowPass p s).2 (lowPass p s).1).1).PreInv := by
    split
    · exact fllUpdate_preInv p (by simpa using hfits) hslewed
    · exact hslewed
  have hbuild : (if fllActive s then fllUpdate p (pllSlew (lowPass p s).2 (lowPass p s).1).1
      else (pllSlew (lowPass p s).2 (lowPass p s).1).1).build = s.build := by split <;> simp
  unfold steer
  dsimp only
  refine lockEvaluation_inv _ (by simpa [hbuild] using hlegal)
    (bookkeeping_preInv _ _ _ (by simpa [hbuild] using hlegal) ?_)
  exact fllRampStep_preInv _ (pllRampStep_preInv _ (pllFeedback_preInv _ _ _ (cdCommand_preInv _ hlearned)))

end Sys2Proof.Machine

/-! SUPPORT. What feeding one byte can do (R88 to R108), said once: it moves the framing registers and PB, keeps their
agreement with the framing state (R23, R24, R39), and ends with nothing or with one dispatch; and it fails only where
that agreement is broken already. -/

namespace Sys2Proof.Machine

variable {s u : State}

/-! ## The statement -/

/-- Everything but GpsDecoder and PB is as before. -/
def State.KeepsButFraming (s u : State) : Prop :=
  u.tb = s.tb ∧ u.hm = s.hm ∧ u.cd = s.cd ∧ u.sys = s.sys ∧ u.cfg = s.cfg ∧ u.ph = s.ph ∧ u.build = s.build ∧
    u.cmdIndex = s.cmdIndex ∧ u.pending = s.pending ∧ u.env = s.env ∧ u.oscIdx = s.oscIdx ∧ u.resp = s.resp ∧
    u.events = s.events

theorem State.KeepsButFraming.refl (s : State) : s.KeepsButFraming s := by simp [State.KeepsButFraming]

theorem State.KeepsButFraming.build_eq (h : s.KeepsButFraming u) : u.build = s.build := by
  obtain ⟨-, -, -, -, -, -, hbuild, -⟩ := h
  exact hbuild

/-- The decoder's invariants, for an instance whose parameters fit. -/
def FeedOk (s : State) : Prop := s.build.fits = true ∧ DecoderOk s

/-- What a fed byte may lead to from `s`: a state `u` that differs in the decoder alone, kept as it is or handed to one
dispatch; or a fault, where the decoder's invariants do not hold. -/
def FedFrom (s : State) : FeedResult → Prop
  | .ok x => ∃ u, s.KeepsButFraming u ∧ (FeedOk s → FeedOk u) ∧ (x = (u, .none) ∨ ∃ n, x = dispatch n u)
  | .error _ => ¬ FeedOk s

theorem FedFrom.quiet (hkeeps : s.KeepsButFraming u) (hok : FeedOk s → FeedOk u) : FedFrom s (quiet u) :=
  ⟨u, hkeeps, hok, .inl rfl⟩

theorem FedFrom.dispatch (hkeeps : s.KeepsButFraming u) (hok : FeedOk s → FeedOk u) (n : Nat) :
    FedFrom s (.ok (dispatch n u)) :=
  ⟨u, hkeeps, hok, .inr ⟨n, rfl⟩⟩

theorem FedFrom.atPbAddress {addr : Nat} {r : FeedResult} (haddr : FeedOk s → addr ≤ u.build.maxPayload)
    (hr : addr ≤ u.build.maxPayload → FedFrom s r) : FedFrom s (atPbAddress u addr r) := by
  unfold Machine.atPbAddress
  split
  · next hle => exact hr hle
  · next hgt => exact fun hok => hgt (haddr hok)

theorem FedFrom.overPayload {n : Nat} {r : FeedResult} (hn : FeedOk s → n ≤ u.build.maxPayload + 1)
    (hr : FedFrom s r) : FedFrom s (overPayload u n r) := by
  unfold Machine.overPayload
  split
  · exact hr
  · next hgt => exact fun hok => hgt (hn hok)

/-! ## The registers that the framing operations write -/

@[simp] theorem State.setFraming_gd (c : Byte) : (s.setFraming c).gd = { s.gd with state := c } := rfl

@[simp] theorem countGarbage_gd (k : Nat) :
    (countGarbage k s).gd = { s.gd with garbage := wrapAdd32 s.gd.garbage k } := rfl

@[simp] theorem countTooBig_gd : (countTooBig s).gd = { s.gd with tooBig := wrapAdd32 s.gd.tooBig 1 } := rfl

@[simp] theorem countCksErr_gd : (countCksErr s).gd = { s.gd with cksErr := wrapAdd32 s.gd.cksErr 1 } := rfl

@[simp] theorem countFramingErr_gd :
    (countFramingErr s).gd = { s.gd with framingErr := wrapAdd32 s.gd.framingErr 1 } := rfl

@[simp] theorem storeByte_gd (b : Byte) :
    (storeByte b s).gd = { s.gd with idx := BitVec.ofNat 16 (s.gd.idx.toNat + 1) } := rfl

@[simp] theorem storeByte_pb (b : Byte) : (storeByte b s).pb = Cells.write s.pb s.gd.idx.toNat b := rfl

@[simp] theorem tsipStartFrame_gd (b : Byte) : (tsipStartFrame b s).gd =
    { s.gd with id := b, idx := 0, ovf := false, state := TsipState.data.code } := rfl

/-- GD.idx counts a stored byte exactly: no address reaches 2^16 (R39). -/
theorem storeByte_idx (hfits : s.build.fits = true) (haddr : s.gd.idx.toNat ≤ s.build.maxPayload) (b : Byte) :
    (storeByte b s).gd.idx.toNat = s.gd.idx.toNat + 1 := by
  have := Build.maxPayload_lt hfits
  simp only [storeByte_gd, BitVec.toNat_ofNat]
  omega

/-! ## The machines that know a length beforehand: SIRF and UBX -/

/-- The part of a frame that declares its length that a framing state stands for: what `sirfStateOk` and `ubxStateOk` tell
apart. -/
inductive FramePhase where
  | header | body | check | drain

/-- What the framing registers satisfy in each part of a frame (R39, R89, R92, R105). -/
def FramePhase.Ok (b : Build) (gd : GpsDecoder) : FramePhase → Prop
  | .header => True
  | .body => gd.idx.toNat < gd.len.toNat ∧ gd.len.toNat ≤ b.maxPayload
  | .check => gd.len.toNat ≤ b.maxPayload
  | .drain => 1 ≤ gd.drain.toNat

/-- The part of a SIRF frame that a framing state belongs to (R90 to R96). -/
def SirfState.phase : SirfState → FramePhase
  | .sync1 | .sync2 | .len1 | .len2 => .header
  | .payload => .body
  | .ck1 | .ck2 | .end1 | .end2 => .check
  | .drain => .drain

/-- The part of a UBX frame that a framing state belongs to (R102 to R108). -/
def UbxState.phase : UbxState → FramePhase
  | .sync1 | .sync2 | .cls | .ident | .len1 | .len2 => .header
  | .payload => .body
  | .ckA | .ckB => .check
  | .drain => .drain

theorem sirfStateOk_iff (b : Build) (gd : GpsDecoder) (st : SirfState) : sirfStateOk b gd st ↔ st.phase.Ok b gd := by
  cases st <;> rfl

theorem ubxStateOk_iff (b : Build) (gd : GpsDecoder) (st : UbxState) : ubxStateOk b gd st ↔ st.phase.Ok b gd := by
  cases st <;> rfl

/-- The part of a frame that a framing code stands for; a TSIP frame has no length to keep to. -/
def framePhase? (p : Protocol) (c : Byte) : Option FramePhase :=
  match p with
  | .sirf => (SirfState.ofCode? c).map SirfState.phase
  | .ubx => (UbxState.ofCode? c).map UbxState.phase
  | .tsip => none

/-- The decoder's invariants within part `ph` of a frame that declares its length. -/
structure Framed (ph : FramePhase) (s : State) : Prop where
  fits : s.build.fits = true
  idx : s.gd.idx.toNat ≤ s.build.maxPayload + 1
  pbForm : Memory.wf s.pb = true
  pbBelow : Cells.below s.pb (s.build.maxPayload + 1) = true
  ovf : s.gd.ovf = false
  ident : s.build.protocol = .sirf → s.gd.cls = 0 ∧ s.gd.id = 0
  phase : ph.Ok s.build s.gd

/-- For SIRF and UBX, `FeedOk` says that GD.state codes a part of a frame and the registers are those of that part. -/
theorem feedOk_iff_framed (hp : s.build.protocol ≠ .tsip) :
    FeedOk s ↔ ∃ ph, framePhase? s.build.protocol s.gd.state = some ph ∧ Framed ph s := by
  constructor
  · rintro ⟨hfits, hidx, hframing, hform, hbelow⟩
    unfold State.FramingOk at hframing
    split at hframing
    · next hsirf =>
      obtain ⟨hcls, hid, hovf, st, hst, hok⟩ := hframing
      exact ⟨st.phase, by simp [framePhase?, hsirf, hst],
        hfits, hidx, hform, hbelow, hovf, fun _ => ⟨hcls, hid⟩, (sirfStateOk_iff _ _ _).mp hok⟩
    · next htsip => exact absurd htsip hp
    · next hubx =>
      obtain ⟨hovf, st, hst, hok⟩ := hframing
      exact ⟨st.phase, by simp [framePhase?, hubx, hst],
        hfits, hidx, hform, hbelow, hovf, by simp [hubx], (ubxStateOk_iff _ _ _).mp hok⟩
  · rintro ⟨ph, hph, hfits, hidx, hform, hbelow, hovf, hident, hok⟩
    refine ⟨hfits, hidx, ?_, hform, hbelow⟩
    unfold State.FramingOk
    split
    · next hsirf =>
      simp only [framePhase?, hsirf, Option.map_eq_some_iff] at hph
      obtain ⟨st, hst, rfl⟩ := hph
      exact ⟨(hident hsirf).1, (hident hsirf).2, hovf, st, hst, (sirfStateOk_iff _ _ _).mpr hok⟩
    · next htsip => exact absurd htsip hp
    · next hubx =>
      simp only [framePhase?, hubx, Option.map_eq_some_iff] at hph
      obtain ⟨st, hst, rfl⟩ := hph
      exact ⟨hovf, st, hst, (ubxStateOk_iff _ _ _).mpr hok⟩

/-- Reaching a framing state of part `ph` with the registers of that part keeps the invariants. -/
theorem feedOk_of_framed {ph : FramePhase} (hp : s.build.protocol ≠ .tsip) (hkeeps : s.KeepsButFraming u)
    (hphase : framePhase? s.build.protocol u.gd.state = some ph) (hok : FeedOk s → Framed ph u) :
    FeedOk s → FeedOk u := by
  have hbuild := hkeeps.build_eq
  intro h
  rw [feedOk_iff_framed (hbuild ▸ hp), hbuild]
  exact ⟨ph, hphase, hok h⟩

section
variable {ph : FramePhase}

/-- The header of a frame asks nothing of the registers beyond what every part does. -/
theorem Framed.header (h : Framed ph s) : Framed .header s := { h with phase := trivial }

theorem Framed.setFraming (h : Framed ph s) (c : Byte) : Framed ph (s.setFraming c) := by cases ph <;> exact { h with }

theorem Framed.countGarbage (h : Framed ph s) (k : Nat) : Framed ph (countGarbage k s) := by
  cases ph <;> exact { h with }

theorem Framed.countCksErr (h : Framed ph s) : Framed ph (countCksErr s) := by cases ph <;> exact { h with }

theorem Framed.countFramingErr (h : Framed ph s) : Framed ph (countFramingErr s) := by cases ph <;> exact { h with }

theorem Framed.latchRx (h : Framed ph s) (b : Byte) : Framed ph (s.withGd { s.gd with rx := b }) := by
  cases ph <;> exact { h with }

/-- GD.len may take any value while the header runs. -/
theorem Framed.latchLen (h : Framed .header s) (v : Half) : Framed .header (s.withGd { s.gd with len := v }) :=
  { h with phase := trivial }

/-- A length over MAX_PAYLOAD is drained, no payload goes to the checksum, any other fits the buffer (R92, R105). -/
theorem takeLength_fedFrom (hp : s.build.protocol ≠ .tsip) (hs : FeedOk s → Framed .header s) (len tail : Nat)
    {drainCode checksumCode payloadCode : Byte} (hlen : len + tail < 2 ^ 32) (htail : 1 ≤ tail)
    (hdrain : framePhase? s.build.protocol drainCode = some .drain)
    (hcheck : framePhase? s.build.protocol checksumCode = some .check)
    (hbody : framePhase? s.build.protocol payloadCode = some .body) :
    FedFrom s (quiet (takeLength len tail drainCode checksumCode payloadCode s)) := by
  have hkeeps : s.KeepsButFraming (takeLength len tail drainCode checksumCode payloadCode s) := by
    simp [State.KeepsButFraming]
  refine .quiet hkeeps ?_
  revert hkeeps
  unfold takeLength
  dsimp only
  split
  · next hover =>
    intro hkeeps
    refine feedOk_of_framed hp hkeeps hdrain fun hok => ?_
    refine { hs hok with idx := Nat.zero_le _, phase := ?_ }
    change 1 ≤ (BitVec.ofNat 32 (len + tail)).toNat
    simp only [BitVec.toNat_ofNat]
    omega
  · next hfit =>
    split
    · intro hkeeps
      refine feedOk_of_framed hp hkeeps hcheck fun hok => ?_
      refine { hs hok with idx := Nat.zero_le _, phase := ?_ }
      change (BitVec.ofNat 16 len).toNat ≤ s.build.maxPayload
      simp only [BitVec.toNat_ofNat]
      omega
    · intro hkeeps
      refine feedOk_of_framed hp hkeeps hbody fun hok => ?_
      have hmax := Build.maxPayload_lt hok.1
      refine { hs hok with idx := Nat.zero_le _, phase := ?_ }
      change 0 < (BitVec.ofNat 16 len).toNat ∧ (BitVec.ofNat 16 len).toNat ≤ s.build.maxPayload
      simp only [BitVec.toNat_ofNat]
      omega

/-- Each payload byte goes below the declared length, and the last one ends the payload (R93, R106). -/
theorem takePayload_fedFrom (hp : s.build.protocol ≠ .tsip) (hs : FeedOk s → Framed .body s) (b : Byte)
    {checksumCode : Byte} (hcheck : framePhase? s.build.protocol checksumCode = some .check)
    (hbody : framePhase? s.build.protocol s.gd.state = some .body) : FedFrom s (takePayload b checksumCode s) := by
  unfold takePayload
  refine .atPbAddress (fun hok => ?_) fun haddr => ?_
  · obtain ⟨hidx, hlen⟩ := (hs hok).phase
    omega
  have hstored (hok : FeedOk s) :
      (storeByte b s).gd.idx.toNat = s.gd.idx.toNat + 1 ∧ Framed .check (storeByte b s) := by
    have hcount := storeByte_idx hok.1 haddr b
    obtain ⟨hidx, hlen⟩ := (hs hok).phase
    exact ⟨hcount, { hs hok with
      idx := by rw [hcount]; exact Nat.succ_le_succ haddr
      pbForm := Cells.wf_write (hs hok).pbForm _ b
      pbBelow := Cells.below_write (hs hok).pbBelow (Nat.lt_succ_of_le haddr) b
      phase := hlen }⟩
  dsimp only
  split
  · refine .quiet (by simp [State.KeepsButFraming]) (feedOk_of_framed hp (by simp [State.KeepsButFraming]) hcheck ?_)
    exact fun hok => (hstored hok).2.setFraming _
  · next hmore =>
    refine .quiet (by simp [State.KeepsButFraming]) (feedOk_of_framed hp (by simp [State.KeepsButFraming]) hbody ?_)
    intro hok
    obtain ⟨hcount, hframed⟩ := hstored hok
    obtain ⟨hidx, hlen⟩ := (hs hok).phase
    have hne : (storeByte b s).gd.idx.toNat ≠ s.gd.len.toNat := fun h => hmore (BitVec.eq_of_toNat_eq h)
    exact { hframed with phase := ⟨by change _ < s.gd.len.toNat; omega, hlen⟩ }

/-- A drain counts down to the first framing state (R96, R108). -/
theorem drainByte_fedFrom (hp : s.build.protocol ≠ .tsip) (hs : FeedOk s → Framed .drain s)
    (hdrain : framePhase? s.build.protocol s.gd.state = some .drain)
    (hidle : framePhase? s.build.protocol 0 = some .header) : FedFrom s (quiet (drainByte s)) := by
  have hkeeps : s.KeepsButFraming (drainByte s) := by simp [State.KeepsButFraming]
  refine .quiet hkeeps ?_
  revert hkeeps
  unfold drainByte
  dsimp only
  split
  · exact fun hkeeps => feedOk_of_framed hp hkeeps hidle fun hok => { hs hok with phase := trivial }
  · next hleft =>
    refine fun hkeeps => feedOk_of_framed hp hkeeps hdrain fun hok => { hs hok with phase := ?_ }
    change 1 ≤ (s.gd.drain - 1).toNat
    have : (s.gd.drain - 1).toNat ≠ 0 := fun h => hleft (BitVec.eq_of_toNat_eq h)
    omega

end

/-- A byte that ends in a framing state of part `ph`, with the registers of that part. -/
theorem FedFrom.framed {ph : FramePhase} (hp : s.build.protocol ≠ .tsip) (hkeeps : s.KeepsButFraming u)
    (hphase : framePhase? s.build.protocol u.gd.state = some ph) (hok : FeedOk s → Framed ph u) :
    FedFrom s (Machine.quiet u) :=
  .quiet hkeeps (feedOk_of_framed hp hkeeps hphase hok)

/-- In a state whose code stands for part `ph`, the decoder's invariants are those of that part. -/
theorem Framed.of_phase {ph : FramePhase} (hp : s.build.protocol ≠ .tsip)
    (hphase : framePhase? s.build.protocol s.gd.state = some ph) (hok : FeedOk s) : Framed ph s := by
  obtain ⟨ph', hph', hframed⟩ := (feedOk_iff_framed hp).mp hok
  obtain rfl : ph = ph' := Option.some.inj (hphase.symm.trans hph')
  exact hframed

/-! ## SIRF (R90 to R96) -/

/-- The first framing state on any byte: sync or garbage (R90). -/
theorem sirfSync1_fedFrom (hp : s.build.protocol = .sirf) (hkeeps : s.KeepsButFraming u)
    (hphase : framePhase? .sirf u.gd.state = some .header) (hu : FeedOk s → Framed .header u) (b : Byte) :
    FedFrom s (quiet (sirfSync1 b u)) := by
  have hnot : s.build.protocol ≠ .tsip := by simp [hp]
  have hkeeps' : s.KeepsButFraming (sirfSync1 b u) := by simpa [State.KeepsButFraming] using hkeeps
  revert hkeeps'
  unfold sirfSync1
  split
  · exact fun hk => .framed hnot hk (by rw [hp]; rfl) fun hok => (hu hok).setFraming _
  · exact fun hk => .framed hnot hk (hp ▸ hphase) fun hok => (hu hok).countGarbage 1

/-- A byte that breaks a frame is counted and read again in the first framing state (R89). -/
theorem sirfReprocess_fedFrom (hp : s.build.protocol = .sirf) (hkeeps : s.KeepsButFraming u)
    (hu : FeedOk s → Framed .header u) (b : Byte) : FedFrom s (quiet (sirfReprocess b u)) :=
  sirfSync1_fedFrom hp (by simpa [State.KeepsButFraming] using hkeeps) rfl (fun hok => (hu hok).setFraming _) b

theorem sirfByte_fedFrom {st : SirfState} (hp : s.build.protocol = .sirf)
    (hst : SirfState.ofCode? s.gd.state = some st) (b : Byte) : FedFrom s (sirfByte st b s) := by
  have hnot : s.build.protocol ≠ .tsip := by simp [hp]
  have hphase : framePhase? s.build.protocol s.gd.state = some st.phase := by simp [framePhase?, hp, hst]
  have hs (hok : FeedOk s) : Framed st.phase s := .of_phase hnot hphase hok
  have hcode {c : Byte} {ph : FramePhase} (h : framePhase? .sirf c = some ph) :
      framePhase? s.build.protocol c = some ph := hp ▸ h
  have hkeeps {c : Byte} : s.KeepsButFraming (s.setFraming c) := by simp [State.KeepsButFraming]
  cases st with
  | sync1 => exact sirfSync1_fedFrom hp (.refl s) (hp ▸ hphase) hs b
  | sync2 =>
    dsimp only [sirfByte]
    split
    · exact .framed hnot hkeeps (hcode rfl) fun hok => (hs hok).setFraming _
    · exact sirfReprocess_fedFrom hp (by simp [State.KeepsButFraming]) (fun hok => (hs hok).countGarbage 1) b
  | len1 =>
    exact .framed hnot (by simp [State.KeepsButFraming]) (hcode rfl) fun hok => ((hs hok).latchLen _).setFraming _
  | len2 =>
    have hlen := s.gd.len.isLt
    have hb := b.isLt
    exact takeLength_fedFrom hnot hs _ _ (by omega) (by decide) (hcode rfl) (hcode rfl) (hcode rfl)
  | payload => exact takePayload_fedFrom hnot hs b (hcode rfl) hphase
  | ck1 =>
    exact .framed hnot (by simp [State.KeepsButFraming]) (hcode rfl) fun hok => ((hs hok).latchRx b).setFraming _
  | ck2 =>
    refine .overPayload (fun hok => Nat.le_succ_of_le (hs hok).phase) ?_
    split
    · exact .framed hnot hkeeps (hcode rfl) fun hok => (hs hok).setFraming _
    · exact .framed hnot (by simp [State.KeepsButFraming]) (hcode rfl)
        fun hok => (hs hok).header.countCksErr.setFraming _
  | end1 =>
    dsimp only [sirfByte]
    split
    · exact .framed hnot hkeeps (hcode rfl) fun hok => (hs hok).setFraming _
    · exact sirfReprocess_fedFrom hp (by simp [State.KeepsButFraming]) (fun hok => (hs hok).header.countFramingErr) b
  | end2 =>
    dsimp only [sirfByte]
    split
    · refine .overPayload (fun hok => Nat.le_succ_of_le (hs hok).phase) (.dispatch hkeeps ?_ _)
      exact feedOk_of_framed hnot hkeeps (hcode rfl) fun hok => (hs hok).header.setFraming _
    · exact sirfReprocess_fedFrom hp (by simp [State.KeepsButFraming]) (fun hok => (hs hok).header.countFramingErr) b
  | drain => exact drainByte_fedFrom hnot hs hphase (hcode rfl)

/-! ## UBX (R102 to R108) -/

/-- The first framing state on any byte: sync or garbage (R102). -/
theorem ubxSync1_fedFrom (hp : s.build.protocol = .ubx) (hkeeps : s.KeepsButFraming u)
    (hphase : framePhase? .ubx u.gd.state = some .header) (hu : FeedOk s → Framed .header u) (b : Byte) :
    FedFrom s (quiet (ubxSync1 b u)) := by
  have hnot : s.build.protocol ≠ .tsip := by simp [hp]
  have hkeeps' : s.KeepsButFraming (ubxSync1 b u) := by simpa [State.KeepsButFraming] using hkeeps
  revert hkeeps'
  unfold ubxSync1
  split
  · exact fun hk => .framed hnot hk (by rw [hp]; rfl) fun hok => (hu hok).setFraming _
  · exact fun hk => .framed hnot hk (hp ▸ hphase) fun hok => (hu hok).countGarbage 1

theorem ubxByte_fedFrom {st : UbxState} (hp : s.build.protocol = .ubx)
    (hst : UbxState.ofCode? s.gd.state = some st) (b : Byte) : FedFrom s (ubxByte st b s) := by
  have hnot : s.build.protocol ≠ .tsip := by simp [hp]
  have hphase : framePhase? s.build.protocol s.gd.state = some st.phase := by simp [framePhase?, hp, hst]
  have hs (hok : FeedOk s) : Framed st.phase s := .of_phase hnot hphase hok
  have hcode {c : Byte} {ph : FramePhase} (h : framePhase? .ubx c = some ph) :
      framePhase? s.build.protocol c = some ph := hp ▸ h
  have hkeeps {c : Byte} : s.KeepsButFraming (s.setFraming c) := by simp [State.KeepsButFraming]
  have hnotSirf (P : Prop) : s.build.protocol = .sirf → P := by simp [hp]
  cases st with
  | sync1 => exact ubxSync1_fedFrom hp (.refl s) (hp ▸ hphase) hs b
  | sync2 =>
    dsimp only [ubxByte]
    split
    · exact .framed hnot hkeeps (hcode rfl) fun hok => (hs hok).setFraming _
    · exact ubxSync1_fedFrom hp (by simp [State.KeepsButFraming]) rfl
        (fun hok => ((hs hok).countGarbage 1).setFraming _) b
  | cls =>
    exact .framed hnot (by simp [State.KeepsButFraming]) (hcode rfl)
      fun hok => { hs hok with ident := hnotSirf _, phase := trivial }
  | ident =>
    exact .framed hnot (by simp [State.KeepsButFraming]) (hcode rfl)
      fun hok => { hs hok with ident := hnotSirf _, phase := trivial }
  | len1 =>
    exact .framed hnot (by simp [State.KeepsButFraming]) (hcode rfl) fun hok => ((hs hok).latchLen _).setFraming _
  | len2 =>
    have hlen := s.gd.len.isLt
    have hb := b.isLt
    exact takeLength_fedFrom hnot hs _ _ (by omega) (by decide) (hcode rfl) (hcode rfl) (hcode rfl)
  | payload => exact takePayload_fedFrom hnot hs b (hcode rfl) hphase
  | ckA =>
    exact .framed hnot (by simp [State.KeepsButFraming]) (hcode rfl) fun hok => ((hs hok).latchRx b).setFraming _
  | ckB =>
    refine .overPayload (fun hok => Nat.le_succ_of_le (hs hok).phase) ?_
    dsimp only
    split
    · refine .dispatch hkeeps ?_ _
      exact feedOk_of_framed hnot hkeeps (hcode rfl) fun hok => (hs hok).header.setFraming _
    · exact .framed hnot (by simp [State.KeepsButFraming]) (hcode rfl)
        fun hok => ((hs hok).header.setFraming _).countCksErr
  | drain => exact drainByte_fedFrom hnot hs hphase (hcode rfl)

/-! ## TSIP (R97 to R101) -/

/-- The decoder's invariants in a TSIP frame, whatever the framing state (R23, R24, R39). -/
structure TsipOk (s : State) : Prop where
  fits : s.build.fits = true
  unused : s.gd.len = 0 ∧ s.gd.cls = 0 ∧ s.gd.rx = 0 ∧ s.gd.drain = 0
  cap : s.gd.idx.toNat ≤ tsipCap s.build
  pbForm : Memory.wf s.pb = true
  pbBelow : Cells.below s.pb (s.build.maxPayload + 1) = true

theorem tsipCap_le (b : Build) : tsipCap b ≤ b.maxPayload + 1 := by
  unfold tsipCap; split <;> omega

theorem feedOk_iff_tsipOk (hp : s.build.protocol = .tsip) :
    FeedOk s ↔ TsipOk s ∧ ∃ st, TsipState.ofCode? s.gd.state = some st := by
  have hframing : s.FramingOk ↔ s.gd.len = 0 ∧ s.gd.cls = 0 ∧ s.gd.rx = 0 ∧ s.gd.drain = 0 ∧
      s.gd.idx.toNat ≤ tsipCap s.build ∧ ∃ st, TsipState.ofCode? s.gd.state = some st := by
    simp [State.FramingOk, hp]
  constructor
  · rintro ⟨hfits, -, hok, hform, hbelow⟩
    obtain ⟨hlen, hcls, hrx, hdrain, hcap, hst⟩ := hframing.mp hok
    exact ⟨⟨hfits, ⟨hlen, hcls, hrx, hdrain⟩, hcap, hform, hbelow⟩, hst⟩
  · rintro ⟨⟨hfits, ⟨hlen, hcls, hrx, hdrain⟩, hcap, hform, hbelow⟩, hst⟩
    exact ⟨hfits, hcap.trans (tsipCap_le _), hframing.mpr ⟨hlen, hcls, hrx, hdrain, hcap, hst⟩, hform, hbelow⟩

theorem feedOk_of_tsipOk {st : TsipState} (hp : s.build.protocol = .tsip) (hkeeps : s.KeepsButFraming u)
    (hst : TsipState.ofCode? u.gd.state = some st) (hok : TsipOk s → TsipOk u) : FeedOk s → FeedOk u := by
  have hbuild := hkeeps.build_eq
  intro h
  exact (feedOk_iff_tsipOk (hbuild ▸ hp)).mpr ⟨hok ((feedOk_iff_tsipOk hp).mp h).1, st, hst⟩

theorem FedFrom.tsip {st : TsipState} (hp : s.build.protocol = .tsip) (hkeeps : s.KeepsButFraming u)
    (hst : TsipState.ofCode? u.gd.state = some st) (hok : TsipOk s → TsipOk u) : FedFrom s (Machine.quiet u) :=
  .quiet hkeeps (feedOk_of_tsipOk hp hkeeps hst hok)

/-- A store stays below the capacity; a byte beyond it only marks the frame (R99). -/
theorem tsipStore_fedFrom (hp : s.build.protocol = .tsip) (v : Byte) {k : State → FeedResult}
    (hk : ∀ u, s.KeepsButFraming u → u.gd.state = s.gd.state → (TsipOk s → TsipOk u) → FedFrom s (k u)) :
    FedFrom s (tsipStore v s k) := by
  unfold tsipStore
  split
  · exact hk s (.refl s) rfl id
  · split
    · exact hk _ (by simp [State.KeepsButFraming]) rfl fun hok => { hok with }
    · next hroom =>
      refine .atPbAddress (fun hok => ?_) fun haddr => hk _ (by simp [State.KeepsButFraming]) rfl fun hok => ?_
      · have hcap := ((feedOk_iff_tsipOk hp).mp hok).1.cap
        have := tsipCap_le s.build
        omega
      · have hcap := hok.cap
        exact { hok with
          cap := by rw [storeByte_idx hok.fits haddr]; change _ ≤ tsipCap s.build; omega
          pbForm := Cells.wf_write hok.pbForm _ v
          pbBelow := Cells.below_write hok.pbBelow (Nat.lt_succ_of_le haddr) v }

/-- The end of a frame reads its payload and its checksum byte within PB (R101). -/
theorem tsipEnd_fedFrom {st : TsipState} (hp : s.build.protocol = .tsip) (hkeeps : s.KeepsButFraming u)
    (hst : TsipState.ofCode? u.gd.state = some st) (hok : TsipOk s → TsipOk u) : FedFrom s (tsipEnd u) := by
  have hfeed := feedOk_of_tsipOk hp hkeeps hst hok
  have hcap (h : FeedOk s) : u.gd.idx.toNat ≤ tsipCap u.build := (hok ((feedOk_iff_tsipOk hp).mp h).1).cap
  have herr : FedFrom s (Machine.quiet (countCksErr u)) :=
    .tsip hp (by simpa [State.KeepsButFraming] using hkeeps) hst fun h => { hok h with }
  unfold tsipEnd
  split
  · exact .quiet hkeeps hfeed
  · split
    · next hadd8 =>
      split
      · exact herr
      · refine .atPbAddress (fun h => ?_) fun _ => ?_
        · have := hcap h
          simp only [tsipCap, hadd8] at this
          omega
        · split
          · exact .dispatch hkeeps hfeed _
          · exact herr
    · refine .overPayload (fun h => ?_) (.dispatch hkeeps hfeed _)
      exact (hcap h).trans (tsipCap_le _)

theorem tsipByte_fedFrom {st : TsipState} (hp : s.build.protocol = .tsip)
    (hst : TsipState.ofCode? s.gd.state = some st) (b : Byte) : FedFrom s (tsipByte st b s) := by
  have hgoto {c : Byte} {st' : TsipState} (hc : TsipState.ofCode? c = some st') :
      FedFrom s (Machine.quiet (s.setFraming c)) :=
    .tsip hp (by simp [State.KeepsButFraming]) hc fun hok => { hok with }
  cases st with
  | idle =>
    dsimp only [tsipByte]
    split
    · exact hgoto rfl
    · exact .tsip hp (by simp [State.KeepsButFraming]) hst fun hok => { hok with }
  | ident =>
    dsimp only [tsipByte]
    split
    · exact .tsip (st := .idle) hp (by simp [State.KeepsButFraming]) rfl fun hok => { hok with }
    · exact .tsip (st := .data) hp (by simp [State.KeepsButFraming]) rfl
        fun hok => { hok with cap := Nat.zero_le _ }
  | data =>
    dsimp only [tsipByte]
    split
    · exact hgoto rfl
    · exact tsipStore_fedFrom hp b fun u hkeeps hstate hok => .tsip hp hkeeps (hstate ▸ hst) hok
  | dataDle =>
    dsimp only [tsipByte]
    split
    · exact tsipStore_fedFrom hp dle fun u hkeeps _ hok =>
        .tsip (st := .data) hp (by simpa [State.KeepsButFraming] using hkeeps) rfl fun h => { hok h with }
    · split
      · exact tsipEnd_fedFrom (st := .idle) hp (by simp [State.KeepsButFraming]) rfl fun hok => { hok with }
      · exact .tsip (st := .data) hp (by simp [State.KeepsButFraming]) rfl
          fun hok => { hok with cap := Nat.zero_le _ }

/-! ## GD.feed (R89) -/

/-- What feeding a byte can do, whatever the protocol and the framing state. -/
theorem gdFeed_fedFrom (b : Byte) (s : State) : FedFrom s (gdFeed b s) := by
  have hnone (hno : FeedOk s → False) (code : Nat) : FedFrom s (.error (.framingState code)) := hno
  unfold gdFeed
  split
  · next hp =>
    cases hst : SirfState.ofCode? s.gd.state with
    | some st => exact sirfByte_fedFrom hp hst b
    | none =>
      intro hok
      obtain ⟨ph, hph, -⟩ := (feedOk_iff_framed (by simp [hp])).mp hok
      simp [framePhase?, hp, hst] at hph
  · next hp =>
    cases hst : TsipState.ofCode? s.gd.state with
    | some st => exact tsipByte_fedFrom hp hst b
    | none =>
      intro hok
      obtain ⟨-, st, h⟩ := (feedOk_iff_tsipOk hp).mp hok
      simp [hst] at h
  · next hp =>
    cases hst : UbxState.ofCode? s.gd.state with
    | some st => exact ubxByte_fedFrom hp hst b
    | none =>
      intro hok
      obtain ⟨ph, hph, -⟩ := (feedOk_iff_framed (by simp [hp])).mp hok
      simp [framePhase?, hp, hst] at hph

end Sys2Proof.Machine

/-! SUPPORT. One dispatched GPS frame keeps the invariants (R111 to R122): the interpreters write latches only, and a
valid timing message carries a date within the week and an offset that fits its register. -/

namespace Sys2Proof.Machine

variable {s u : State}

/-! ## The interpreters leave the framing registers alone -/

/-- The framing registers of R23 agree. -/
def SameFraming (x y : GpsDecoder) : Prop :=
  x.state = y.state ∧ x.len = y.len ∧ x.idx = y.idx ∧ x.cls = y.cls ∧ x.id = y.id ∧ x.rx = y.rx ∧
    x.drain = y.drain ∧ x.ovf = y.ovf

/-- The decoder's invariants speak of no counter and no latch of GpsDecoder. -/
theorem DecoderOk.withGd {x : GpsDecoder} (h : DecoderOk s) (hx : SameFraming x s.gd) : DecoderOk (s.withGd x) := by
  obtain ⟨hstate, hlen, hidx, hcls, hid, hrx, hdrain, hovf⟩ := hx
  obtain ⟨hi, hf, hform, hbelow⟩ := h
  refine ⟨hidx ▸ hi, ?_, hform, hbelow⟩
  unfold State.FramingOk at hf ⊢
  simp only [State.withGd_gd, State.withGd_build, hstate, hlen, hidx, hcls, hid, hrx, hdrain, hovf,
    sirfStateOk_iff, ubxStateOk_iff] at hf ⊢
  have hphase (ph : FramePhase) : ph.Ok s.build x ↔ ph.Ok s.build s.gd := by
    cases ph <;> simp only [FramePhase.Ok, hlen, hidx, hdrain]
  simpa only [hphase] using hf

theorem interpret_sameFraming (n : Nat) (s : State) : SameFraming (interpret n s).1.gd s.gd := by
  have hrefl : SameFraming s.gd s.gd := ⟨rfl, rfl, rfl, rfl, rfl, rfl, rfl, rfl⟩
  unfold interpret
  split
  · unfold interpretSirf
    split
    · exact hrefl
    · split <;> exact hrefl
  · unfold interpretTsip
    split
    · exact hrefl
    · split <;> exact hrefl
  · unfold interpretUbx
    split
    · exact hrefl
    · split
      · exact hrefl
      · split <;> exact hrefl

/-! ## What a timing message carries -/

theorem sext16_bounds {v : Nat} (hv : v < 2 ^ 16) : -2 ^ 15 ≤ sext16 v ∧ sext16 v < 2 ^ 15 := by
  unfold sext16; split <;> omega

theorem State.u8_lt (s : State) (i : Nat) : s.u8 i < 2 ^ 8 := (Cells.read s.pb i).isLt

theorem State.sbe16_bounds (s : State) (i : Nat) : -2 ^ 15 ≤ s.sbe16 i ∧ s.sbe16 i < 2 ^ 15 := by
  have h0 := s.u8_lt i
  have h1 := s.u8_lt (i + 1)
  exact sext16_bounds (by unfold State.be16; omega)

/-- The date of a valid timing message lies within the week, its offset within what TB.set_date can take with one
borrow or carry (R113, R115, R117). -/
def DateFits (b : Build) : Interpretation → Prop
  | .timing _ tow off valid => valid = true → tow < b.weekSeconds ∧ -2 ^ 15 ≤ off ∧ off ≤ 2 ^ 15
  | .status => True
  | .unknown => True

theorem sirfClockStatus_dateFits (s : State) : DateFits s.build (sirfClockStatus s) := by
  intro hvalid
  simp only [Bool.and_eq_true, decide_eq_true_eq] at hvalid
  have h1 := s.gd.utcOffset.le_toInt
  have h2 := s.gd.utcOffset.toInt_lt
  exact ⟨hvalid.2, by omega, by omega⟩

/-- The offset −32768, which has no negative in an i16, never gets here: such a message is not valid (R115). -/
theorem tsipPrimaryTiming_dateFits (s : State) : DateFits s.build (tsipPrimaryTiming s) := by
  intro hvalid
  simp only [Bool.and_eq_true, decide_eq_true_eq] at hvalid
  obtain ⟨⟨-, htow⟩, hne⟩ := hvalid
  have hu := s.sbe16_bounds 7
  rw [if_pos hne]
  exact ⟨htow, by omega, by omega⟩

theorem ubxTimeGps_dateFits (s : State) : DateFits s.build (ubxTimeGps s) := by
  intro hvalid
  simp only [Bool.and_eq_true, decide_eq_true_eq] at hvalid
  have h1 : -2 ^ 7 ≤ s.s8 10 := (Cells.read s.pb 10).le_toInt
  have h2 : s.s8 10 < 2 ^ 7 := (Cells.read s.pb 10).toInt_lt
  exact ⟨hvalid.2, by omega, by omega⟩

theorem interpret_dateFits (n : Nat) (s : State) : DateFits s.build (interpret n s).2 := by
  unfold interpret
  split
  · unfold interpretSirf
    split
    · exact sirfClockStatus_dateFits s
    · split <;> trivial
  · unfold interpretTsip
    split
    · exact tsipPrimaryTiming_dateFits s
    · split <;> trivial
  · unfold interpretUbx
    split
    · exact ubxTimeGps_dateFits s
    · split
      · trivial
      · split <;> trivial

/-! ## The dispatch (R111) -/

theorem State.PreInv.withGd {x : GpsDecoder} (h : s.PreInv) (hx : SameFraming x s.gd) : (s.withGd x).PreInv :=
  ⟨h.date, h.monitor, h.config, h.discipline, h.decoder.withGd hx, h.ring⟩

theorem foldTiming_inv {week tow : Nat} {off : Int} {valid : Bool} (hlegal : s.build.legal = true)
    (hfits : s.build.fits = true) (h : s.PreInv) (hdate : DateFits s.build (.timing week tow off valid)) :
    (foldTiming week tow off valid s).Inv := by
  have hlatched : (s.withGd { s.gd with fixValid := valid }).PreInv :=
    h.withGd ⟨rfl, rfl, rfl, rfl, rfl, rfl, rfl, rfl⟩
  unfold foldTiming
  dsimp only
  split
  · next hvalid =>
    obtain ⟨htow, hoff⟩ := hdate hvalid
    exact setGpsStatus_inv _ (by simpa using hlegal) (tbSetDate_preInv (by exact hfits) week hlatched htow hoff)
  · exact setGpsStatus_inv _ hlegal hlatched

theorem State.Inv.withGd {x : GpsDecoder} (h : s.Inv) (hx : SameFraming x s.gd) : (s.withGd x).Inv :=
  (State.inv_iff _).mpr ⟨h.preInv.withGd hx, h.gpsNotLost⟩

/-- An interpreter writes latches of GpsDecoder at most. -/
theorem interpret_inv (n : Nat) (h : s.Inv) : (interpret n s).1.Inv :=
  (h.withGd (interpret_sameFraming n s)).congr (by simp) (by simp) rfl (by simp) (by simp) (by simp) (by simp) (by simp)

/-- One dispatched frame keeps the invariants. -/
theorem dispatch_inv (n : Nat) (hlegal : s.build.legal = true) (hfits : s.build.fits = true) (h : s.Inv) :
    (dispatch n s).1.Inv := by
  have hcounted : (resetGpsWatchdog (s.withGd { s.gd with good := wrapAdd32 s.gd.good 1 })).Inv :=
    resetGpsWatchdog_inv (h.withGd ⟨rfl, rfl, rfl, rfl, rfl, rfl, rfl, rfl⟩)
  have hbuild : (resetGpsWatchdog (s.withGd { s.gd with good := wrapAdd32 s.gd.good 1 })).build = s.build := rfl
  unfold dispatch
  dsimp only
  generalize resetGpsWatchdog (s.withGd { s.gd with good := wrapAdd32 s.gd.good 1 }) = t at hcounted hbuild
  have hread := interpret_inv n hcounted
  have hdate := interpret_dateFits n t
  have hbuild' : (interpret n t).1.build = s.build := by simp [hbuild]
  split
  · next hr =>
    rw [hr] at hdate
    exact foldTiming_inv (by rwa [hbuild']) (by rwa [hbuild']) hread.preInv (by rwa [hbuild', ← hbuild])
  · exact setGpsStatus_inv _ (by rwa [hbuild']) hread.preInv
  · exact hread.withGd ⟨rfl, rfl, rfl, rfl, rfl, rfl, rfl, rfl⟩

/-- A state that differs from one with the invariants in the decoder alone has them when its decoder does. -/
theorem State.Inv.of_keepsButFraming (h : s.Inv) (hkeeps : s.KeepsButFraming u) (hok : DecoderOk u) : u.Inv := by
  obtain ⟨htb, hhm, hcd, -, hcfg, hph, hbuild, -⟩ := hkeeps
  obtain ⟨⟨h1, h2, h3, h4, -, h6⟩, h7⟩ := s.inv_iff.mp h
  refine u.inv_iff.mpr ⟨⟨?_, ?_, ?_, ?_, hok, ?_⟩, ?_⟩ <;> simp_all

/-- A fed byte keeps the invariants (R88). -/
theorem gdFeed_inv {b : Byte} {r : State × FeedEvent} (hlegal : s.build.legal = true) (hfits : s.build.fits = true)
    (h : s.Inv) (hr : gdFeed b s = .ok r) : r.1.Inv := by
  have hfed := gdFeed_fedFrom b s
  rw [hr] at hfed
  obtain ⟨u, hkeeps, hok, hres⟩ := hfed
  have hu : u.Inv := h.of_keepsButFraming hkeeps (hok ⟨hfits, h.preInv.decoder⟩).2
  obtain ⟨-, -, -, -, -, -, hbuild, -⟩ := hkeeps
  obtain rfl | ⟨n, rfl⟩ := hres
  · exact hu
  · exact dispatch_inv n (hbuild ▸ hlegal) (hbuild ▸ hfits) hu

/-- A byte fed where the invariants hold raises no fault (R37, R176). -/
theorem gdFeed_completes (b : Byte) (hfits : s.build.fits = true) (h : s.Inv) : ∃ r, gdFeed b s = .ok r := by
  have hfed := gdFeed_fedFrom b s
  cases hr : gdFeed b s with
  | ok r => exact ⟨r, rfl⟩
  | error e =>
    rw [hr] at hfed
    exact absurd ⟨hfits, h.preInv.decoder⟩ hfed

end Sys2Proof.Machine

/-! SUPPORT. CFG_WRITE (R166, R167): a clamped value fits its register, what it bounds is clamped again, and the
invariants stay. -/

namespace Sys2Proof.Machine

variable {s : State}

/-! ## Clamped values in their registers (R11, R12) -/

theorem clampHalf_toNat {v lo hi : Int} (hlo : 0 ≤ lo) (hle : lo ≤ hi) (hhi : hi < 2 ^ 16) :
    ((clampHalf v lo hi).toNat : Int) = clamp v lo hi := by
  have := clamp_bounds (v := v) hle
  exact toNat_ofInt (by omega) (by omega)

theorem ofInt32_clamp_toInt {v lo hi : Int} (hlo : -2 ^ 31 ≤ lo) (hle : lo ≤ hi) (hhi : hi < 2 ^ 31) :
    (BitVec.ofInt 32 (clamp v lo hi)).toInt = clamp v lo hi := by
  have := clamp_bounds (v := v) hle
  exact toInt_ofInt32 (by omega) (by omega)

theorem ofInt32_clamp_toNat {v lo hi : Int} (hlo : 0 ≤ lo) (hle : lo ≤ hi) (hhi : hi < 2 ^ 32) :
    ((BitVec.ofInt 32 (clamp v lo hi)).toNat : Int) = clamp v lo hi := by
  have := clamp_bounds (v := v) hle
  exact toNat_ofInt (by omega) (by omega)

theorem wrap64_clamp_toInt {v lo hi : Int} (hlo : -2 ^ 63 ≤ lo) (hle : lo ≤ hi) (hhi : hi < 2 ^ 63) :
    (wrap64 (clamp v lo hi)).toInt = clamp v lo hi := by
  have := clamp_bounds (v := v) hle
  exact toInt_ofInt64 (by omega) (by omega)

/-- The signed reading of a 32-bit value (R12). -/
theorem toInt_ofNat32 {value : Nat} (h : value < 2 ^ 32) :
    (BitVec.ofNat 32 value).toInt = if value < 2 ^ 31 then (value : Int) else value - 2 ^ 32 := by
  rw [BitVec.toInt_eq_toNat_cond, BitVec.toNat_ofNat, Nat.mod_eq_of_lt h]
  split <;> split <;> omega

/-- A factor bound is stored, and returned, exactly (R166, R167). -/
theorem factorBound_exact {v lo hi : Int} (hlo : 0 ≤ lo) (hle : lo ≤ hi) (hhi : hi < 2 ^ 16) :
    (wrap64 (clamp v lo hi)).toInt = clamp v lo hi ∧
      ((BitVec.ofInt 16 (clamp v lo hi)).toNat : Int) = (wrap64 (clamp v lo hi)).toInt := by
  have hr0 := wrap64_clamp_toInt (v := v) (lo := lo) (hi := hi) (by omega) hle (by omega)
  exact ⟨hr0, (clampHalf_toNat hlo hle hhi).trans hr0.symm⟩

/-! ## The eight registers (R167) -/

/-- Settles O49: register by register, the clamped value fits, so that it is stored and returned exactly, and the
factor or rate that it bounds is clamped between bounds in their order. -/
theorem cfgWriteClamps : Obligations.CfgWriteClamps := by
  intro s value signed hfits h hvalue hsigned
  obtain ⟨-, hlimit⟩ := Build.factorLimit_bounds hfits
  obtain ⟨-, hrate⟩ := Build.fllRateLimit_bounds hfits
  have hfudge := Build.phaseFudgeLimit_le hfits
  obtain ⟨hpmin, hpmax, hfmin, hfmax, hrmax, -⟩ := h.preInv.config
  obtain ⟨hplow, hphigh, hflow, hfhigh, -, -, -, -⟩ := h.preInv.discipline
  have hsext : (BitVec.ofNat 32 value).toInt = signed := (toInt_ofNat32 hvalue).trans hsigned.symm
  have hstores : s.KeepsStores s := ⟨fun _ => rfl, fun _ => rfl⟩
  have hhost : s.KeepsHost s := ⟨rfl, rfl, rfl, rfl⟩
  refine ⟨?pllMin, ?pllMax, ?fllMin, ?fllMax, ?rateMax, ?rate, ?enable, ?fudge⟩
  case pllMin =>
    have hv := clamp_bounds (v := value) (lo := 1) (hi := s.cfg.pllFactorMax.toNat) (by omega)
    obtain ⟨hr0, hreg⟩ := factorBound_exact (v := value) (lo := 1) (hi := s.cfg.pllFactorMax.toNat)
      (by omega) (by omega) (by omega)
    have hfactor := clampHalf_toNat (v := s.cd.pllFactor.toNat) (Int.natCast_nonneg _)
      ((hreg.trans hr0).trans_le hv.2) (by omega)
    exact ⟨_, rfl, hr0, hreg, hfactor, rfl, rfl, rfl, rfl, rfl, rfl, rfl, rfl, hstores, hhost⟩
  case pllMax =>
    have hv := clamp_bounds (v := value) (lo := s.cfg.pllFactorMin.toNat) (hi := s.build.factorLimit) (by omega)
    obtain ⟨hr0, hreg⟩ := factorBound_exact (v := value) (lo := s.cfg.pllFactorMin.toNat)
      (hi := s.build.factorLimit) (by omega) (by omega) (by omega)
    have hfactor := clampHalf_toNat (v := s.cd.pllFactor.toNat) (Int.natCast_nonneg _)
      (hv.1.trans_eq (hreg.trans hr0).symm) (by omega)
    exact ⟨_, rfl, hr0, hreg, hfactor, rfl, rfl, rfl, rfl, rfl, rfl, rfl, rfl, hstores, hhost⟩
  case fllMin =>
    have hv := clamp_bounds (v := value) (lo := 1) (hi := s.cfg.fllFactorMax.toNat) (by omega)
    obtain ⟨hr0, hreg⟩ := factorBound_exact (v := value) (lo := 1) (hi := s.cfg.fllFactorMax.toNat)
      (by omega) (by omega) (by omega)
    have hfactor := clampHalf_toNat (v := s.cd.fllFactor.toNat) (Int.natCast_nonneg _)
      ((hreg.trans hr0).trans_le hv.2) (by omega)
    exact ⟨_, rfl, hr0, hreg, hfactor, rfl, rfl, rfl, rfl, rfl, rfl, rfl, rfl, hstores, hhost⟩
  case fllMax =>
    have hv := clamp_bounds (v := value) (lo := s.cfg.fllFactorMin.toNat) (hi := s.build.factorLimit) (by omega)
    obtain ⟨hr0, hreg⟩ := factorBound_exact (v := value) (lo := s.cfg.fllFactorMin.toNat)
      (hi := s.build.factorLimit) (by omega) (by omega) (by omega)
    have hfactor := clampHalf_toNat (v := s.cd.fllFactor.toNat) (Int.natCast_nonneg _)
      (hv.1.trans_eq (hreg.trans hr0).symm) (by omega)
    exact ⟨_, rfl, hr0, hreg, hfactor, rfl, rfl, rfl, rfl, rfl, rfl, rfl, rfl, hstores, hhost⟩
  case rateMax =>
    have hv := clamp_bounds (v := value) (lo := 0) (hi := s.build.fllRateLimit) (by omega)
    have hr0 := wrap64_clamp_toInt (v := value) (lo := 0) (hi := s.build.fllRateLimit) (by omega) (by omega) (by omega)
    have hreg := ofInt32_clamp_toNat (v := value) (lo := 0) (hi := s.build.fllRateLimit) (by omega) (by omega) (by omega)
    have hheld := ofInt32_clamp_toInt (v := s.cd.fllRate.toInt) (lo := -clamp value 0 s.build.fllRateLimit)
      (hi := clamp value 0 s.build.fllRateLimit) (by omega) (by omega) (by omega)
    exact ⟨_, rfl, hr0, hreg.trans hr0.symm, hheld.trans (by rw [← hr0]; rfl), rfl, rfl, rfl, rfl, rfl, rfl, rfl, rfl,
      hstores, hhost⟩
  case rate =>
    have hr0 := wrap64_clamp_toInt (v := signed) (lo := -(s.cfg.fllRateMax.toNat : Int)) (hi := s.cfg.fllRateMax.toNat)
      (by omega) (by omega) (by omega)
    have hreg := ofInt32_clamp_toInt (v := signed) (lo := -(s.cfg.fllRateMax.toNat : Int)) (hi := s.cfg.fllRateMax.toNat)
      (by omega) (by omega) (by omega)
    subst hsext
    exact ⟨_, rfl, hr0, hreg.trans hr0.symm, rfl, rfl, rfl, rfl, rfl, rfl, rfl, rfl, hstores, hhost⟩
  case enable =>
    refine ⟨_, rfl, ?_, rfl, rfl, rfl, rfl, rfl, rfl, rfl, rfl, hstores, hhost⟩
    by_cases hzero : value = 0 <;> simp [boolCode, wrap64, hzero]
  case fudge =>
    have hr0 := wrap64_clamp_toInt (v := signed) (lo := -(s.build.phaseFudgeLimit : Int)) (hi := s.build.phaseFudgeLimit)
      (by omega) (by omega) (by omega)
    have hreg := ofInt32_clamp_toInt (v := signed) (lo := -(s.build.phaseFudgeLimit : Int))
      (hi := s.build.phaseFudgeLimit) (by omega) (by omega) (by omega)
    subst hsext
    exact ⟨_, rfl, hr0, hreg.trans hr0.symm, rfl, rfl, rfl, rfl, rfl, rfl, rfl, rfl, hstores, hhost⟩

end Sys2Proof.Machine

/-! SUPPORT. What a command that runs does before it answers, command by command; and that every command and every step
keep the invariants (R37, R131) and every well-formed command completes (R173, R176). -/

namespace Sys2Proof.Machine

variable {s t u : State}

/-! ## CFG_WRITE (R167) -/

/-- With the PLL's bounds in order, the clamp brings its factor between them; the rest is as before. -/
theorem reclampPll_inv {c : Configuration} (hfits : s.build.fits = true) (h : s.Inv) (hc : ConfigOk s.build c)
    (hle : c.pllFactorMin.toNat ≤ c.pllFactorMax.toNat) (hmin : c.fllFactorMin = s.cfg.fllFactorMin)
    (hmax : c.fllFactorMax = s.cfg.fllFactorMax) (hrate : c.fllRateMax = s.cfg.fllRateMax) :
    (reclampPll (s.withCfg c)).Inv := by
  obtain ⟨-, hlimit⟩ := Build.factorLimit_bounds hfits
  have hpmax := hc.pllMax
  obtain ⟨⟨h1, h2, -, ⟨-, -, g3, g4, g5, g6, g7, g8⟩, h5, h6⟩, h7⟩ := s.inv_iff.mp h
  have hbounds := clamp_bounds (v := s.cd.pllFactor.toNat) (lo := c.pllFactorMin.toNat) (hi := c.pllFactorMax.toNat)
    (by omega)
  have hfactor := clampHalf_toNat (v := s.cd.pllFactor.toNat) (lo := c.pllFactorMin.toNat)
    (hi := c.pllFactorMax.toNat) (by omega) (by omega) (by omega)
  exact (State.inv_iff _).mpr ⟨⟨h1, h2, hc, ⟨Int.ofNat_le.mp (hbounds.1.trans_eq hfactor.symm),
    Int.ofNat_le.mp (hfactor.trans_le hbounds.2), hmin ▸ g3, hmax ▸ g4, hrate ▸ g5, g6, g7, g8⟩,
    h5.congr rfl rfl rfl, h6⟩, h7⟩

/-- With the FLL's bounds in order, the clamp brings its factor between them; the rest is as before. -/
theorem reclampFll_inv {c : Configuration} (hfits : s.build.fits = true) (h : s.Inv) (hc : ConfigOk s.build c)
    (hle : c.fllFactorMin.toNat ≤ c.fllFactorMax.toNat) (hmin : c.pllFactorMin = s.cfg.pllFactorMin)
    (hmax : c.pllFactorMax = s.cfg.pllFactorMax) (hrate : c.fllRateMax = s.cfg.fllRateMax) :
    (reclampFll (s.withCfg c)).Inv := by
  obtain ⟨-, hlimit⟩ := Build.factorLimit_bounds hfits
  have hfmax := hc.fllMax
  obtain ⟨⟨h1, h2, -, ⟨g1, g2, -, -, g5, g6, g7, g8⟩, h5, h6⟩, h7⟩ := s.inv_iff.mp h
  have hbounds := clamp_bounds (v := s.cd.fllFactor.toNat) (lo := c.fllFactorMin.toNat) (hi := c.fllFactorMax.toNat)
    (by omega)
  have hfactor := clampHalf_toNat (v := s.cd.fllFactor.toNat) (lo := c.fllFactorMin.toNat)
    (hi := c.fllFactorMax.toNat) (by omega) (by omega) (by omega)
  exact (State.inv_iff _).mpr ⟨⟨h1, h2, hc, ⟨hmin ▸ g1, hmax ▸ g2,
    Int.ofNat_le.mp (hbounds.1.trans_eq hfactor.symm), Int.ofNat_le.mp (hfactor.trans_le hbounds.2), hrate ▸ g5,
    g6, g7, g8⟩, h5.congr rfl rfl rfl, h6⟩, h7⟩

/-- An i32 register that is given a clamped value lies within symmetric bounds. -/
theorem ofInt32_clamp_natAbs_le (v : Int) {top : Int} (h0 : 0 ≤ top) (htop : top < 2 ^ 31) :
    ((BitVec.ofInt 32 (clamp v (-top) top)).toInt.natAbs : Int) ≤ top := by
  have hbounds := clamp_bounds (v := v) (lo := -top) (hi := top) (by omega)
  rw [ofInt32_clamp_toInt (by omega) (by omega) (by omega)]
  omega

/-- CFG_WRITE keeps the invariants: the bound written stays in order with its partner, and what it bounds follows. -/
theorem cfgSet_inv {reg value : Nat} {v : Int} (hfits : s.build.fits = true) (h : s.Inv)
    (hset : cfgSet reg value s = some (u, v)) : u.Inv := by
  obtain ⟨-, hlimit⟩ := Build.factorLimit_bounds hfits
  obtain ⟨-, hratelimit⟩ := Build.fllRateLimit_bounds hfits
  have hfudgelimit := Build.phaseFudgeLimit_le hfits
  have hconfig := h.preInv.config
  obtain ⟨hpmin, hpmax, hfmin, hfmax, hrmax, hfudge⟩ := h.preInv.config
  obtain ⟨hplow, hphigh, hflow, hfhigh, hrate, hjump, hcount, hhead⟩ := h.preInv.discipline
  have hreg {lo hi : Int} (hlo : 0 ≤ lo) (hle : lo ≤ hi) (hhi : hi < 2 ^ 16) :
      ((BitVec.ofInt 16 (clamp value lo hi)).toNat : Int) = clamp value lo hi := clampHalf_toNat hlo hle hhi
  unfold cfgSet at hset
  dsimp only at hset
  split at hset <;> cases hset
  · have hv := clamp_bounds (v := value) (lo := 1) (hi := s.cfg.pllFactorMax.toNat) (by omega)
    have hm := hreg (lo := 1) (hi := s.cfg.pllFactorMax.toNat) (by omega) (by omega) (by omega)
    exact reclampPll_inv hfits h { hconfig with pllMin := by dsimp only; omega } (by dsimp only; omega) rfl rfl rfl
  · have hv := clamp_bounds (v := value) (lo := s.cfg.pllFactorMin.toNat) (hi := s.build.factorLimit) (by omega)
    have hm := hreg (lo := s.cfg.pllFactorMin.toNat) (hi := s.build.factorLimit) (by omega) (by omega) (by omega)
    exact reclampPll_inv hfits h { hconfig with pllMax := by dsimp only; omega } (by dsimp only; omega) rfl rfl rfl
  · have hv := clamp_bounds (v := value) (lo := 1) (hi := s.cfg.fllFactorMax.toNat) (by omega)
    have hm := hreg (lo := 1) (hi := s.cfg.fllFactorMax.toNat) (by omega) (by omega) (by omega)
    exact reclampFll_inv hfits h { hconfig with fllMin := by dsimp only; omega } (by dsimp only; omega) rfl rfl rfl
  · have hv := clamp_bounds (v := value) (lo := s.cfg.fllFactorMin.toNat) (hi := s.build.factorLimit) (by omega)
    have hm := hreg (lo := s.cfg.fllFactorMin.toNat) (hi := s.build.factorLimit) (by omega) (by omega) (by omega)
    exact reclampFll_inv hfits h { hconfig with fllMax := by dsimp only; omega } (by dsimp only; omega) rfl rfl rfl
  · have hv := clamp_bounds (v := value) (lo := 0) (hi := s.build.fllRateLimit) (by omega)
    have hm := ofInt32_clamp_toNat (v := value) (lo := 0) (hi := s.build.fllRateLimit) (by omega) (by omega) (by omega)
    have hheld := ofInt32_clamp_natAbs_le s.cd.fllRate.toInt hv.1 (by omega)
    have hwritten : ConfigOk s.build
        { s.cfg with fllRateMax := BitVec.ofInt 32 (clamp value 0 s.build.fllRateLimit) } :=
      { hconfig with rateMax := by dsimp only; omega }
    obtain ⟨⟨h1, h2, -, -, h5, h6⟩, h7⟩ := s.inv_iff.mp h
    exact (State.inv_iff _).mpr ⟨⟨h1, h2, hwritten,
      ⟨hplow, hphigh, hflow, hfhigh, Int.ofNat_le.mp (hheld.trans_eq hm.symm), hjump, hcount, hhead⟩,
      h5.congr rfl rfl rfl, h6⟩, h7⟩
  · have hheld := ofInt32_clamp_natAbs_le (BitVec.ofNat 32 value).toInt (top := s.cfg.fllRateMax.toNat)
      (by omega) (by omega)
    exact (State.inv_iff _).mpr ⟨h.preInv.withCd
      ⟨hplow, hphigh, hflow, hfhigh, Int.ofNat_le.mp hheld, hjump, hcount, hhead⟩, h.gpsNotLost⟩
  · obtain ⟨⟨h1, h2, -, h4, h5, h6⟩, h7⟩ := s.inv_iff.mp h
    exact (State.inv_iff _).mpr ⟨⟨h1, h2, { hconfig with },
      ⟨hplow, hphigh, hflow, hfhigh, hrate, hjump, hcount, hhead⟩, h5.congr rfl rfl rfl, h6⟩, h7⟩
  · have hheld := ofInt32_clamp_natAbs_le (BitVec.ofNat 32 value).toInt (top := s.build.phaseFudgeLimit)
      (by omega) (by omega)
    obtain ⟨⟨h1, h2, -, h4, h5, h6⟩, h7⟩ := s.inv_iff.mp h
    exact (State.inv_iff _).mpr ⟨⟨h1, h2, { hconfig with fudge := Int.ofNat_le.mp hheld },
      ⟨hplow, hphigh, hflow, hfhigh, hrate, hjump, hcount, hhead⟩, h5.congr rfl rfl rfl, h6⟩, h7⟩

/-- CFG_WRITE knows the numbers from 0x0500 to 0x0507 and no others (R166, R173). -/
theorem cfgSet_eq_none_iff (reg value : Nat) (s : State) :
    cfgSet reg value s = none ↔ reg < 0x0500 ∨ 0x0507 < reg := by
  unfold cfgSet
  dsimp only
  split
  case h_9 => simp only [true_iff]; grind
  all_goals simp

/-! ## What a command does before it answers -/

/-- The state `u` that a command which is not rejected reaches from `s` before its response is set. -/
def CommandEffect (i : Instr) (s u : State) : Prop :=
  match i with
  | .nop | .tbTickToNs _ | .tbToNtp _ _ | .tbToUnix | .tbGetDate | .hmShouldRun | .hmGetStatus | .readReg _
  | .readPb _ => u = s
  | .reset => u = if s.hm.ppsEnabled then (blockReset s).emit .ppsDisable else blockReset s
  | .secondTick =>
    let t := hmAge (tbAdvance s)
    if s.sys.pendingValid then ∃ r, tickStep t = .ok r ∧ u = r.1.withSys { r.1.sys with pendingValid := false }
    else u = t
  | .ppsCapture _ => ∃ x, u = (if s.sys.pendingValid then countSkipped s else s).withSys x
  | .gpsFeed byte => ∃ r, gdFeed (BitVec.ofNat 8 byte) s = .ok r ∧ u = r.1
  | .tbSetDate week off tow => tow < s.build.weekSeconds ∧ u = tbSetDate week tow off s
  | .tbAdvance => u = tbAdvance s
  | .hmSetOsc _ => ∃ x, x ≠ .minorAlarm ∧ u = setOscStatus x s
  | .hmSetGps _ => ∃ x, u = setGpsStatus x s
  | .hmSetPll _ => ∃ x, x ≠ .minorAlarm ∧ u = setPllStatus x s
  | .hmSetFll _ => ∃ x, x ≠ .minorAlarm ∧ u = setFllStatus x s
  | .hmResetGpsWdt => u = resetGpsWatchdog s
  | .hmResetFllWdt => u = resetFllWatchdog s
  | .hmUpdate => u = hmUpdate s
  | .cdEnterHoldover => u = cdEnterHoldover s
  | .cdLeaveHoldover duration => u = cdLeaveHoldover duration s
  | .cdStep phase gpsValid => ∃ r, cdStep phase gpsValid s = .ok r ∧ u = r.1
  | .cfgWrite reg value => ∃ v, cfgSet reg value s = some (u, v)

/-- Of the codes 0 and 1 none is MINOR_ALARM (R132 to R135). -/
theorem ofCode?_one_ne_minorAlarm {code : Nat} {x : SubStatus} (h : SubStatus.ofCode? 1 code = some x) :
    x ≠ .minorAlarm := by
  unfold SubStatus.ofCode? at h
  split at h
  · cases h
  · next hle =>
    have : code = 0 ∨ code = 1 := by omega
    obtain rfl | rfl := this <;> cases h <;> decide

/-- A command that completes has been rejected with ERR_RANGE, or has had its effect and answered (R171, R173). -/
theorem exec_effect {i : Instr} (h : exec i s = .next t) :
    t = s.reject .errRange ∨ ∃ u r0 r1, CommandEffect i s.start u ∧ t = u.answer r0 r1 := by
  have hanswer {u : State} {r0 : Quad} {r1 : Word} (hu : CommandEffect i s.start u) (ht : t = u.answer r0 r1) :
      t = s.reject .errRange ∨ ∃ u r0 r1, CommandEffect i s.start u ∧ t = u.answer r0 r1 :=
    .inr ⟨u, r0, r1, hu, ht⟩
  cases i with
  | nop | tbToUnix | tbGetDate | hmShouldRun | hmGetStatus | reset | tbAdvance | hmResetGpsWdt | hmResetFllWdt
  | hmUpdate | cdEnterHoldover | cdLeaveHoldover =>
    cases h
    exact hanswer rfl rfl
  | secondTick =>
    simp only [exec, execSecondTick, hmAge_keeps, tbAdvance_keeps, State.start_sys] at h
    split at h
    · next hpending =>
      split at h
      · next r hr =>
        cases h
        exact hanswer (by simp only [CommandEffect, State.start_sys, hpending, if_true]; exact ⟨r, hr, rfl⟩) rfl
      · cases h
    · next hpending =>
      cases h
      exact hanswer (by simp [CommandEffect, hpending]) rfl
  | ppsCapture tick =>
    simp only [exec, execPpsCapture] at h
    split at h <;> cases h
    · exact .inl rfl
    · exact hanswer ⟨_, rfl⟩ rfl
  | gpsFeed byte =>
    simp only [exec, execGpsFeed] at h
    split at h
    · next r hr => cases h; exact hanswer ⟨r, hr, rfl⟩ rfl
    · cases h
  | tbSetDate week off tow =>
    simp only [exec, execTbSetDate] at h
    split at h
    · cases h; exact .inl rfl
    · next htow => cases h; exact hanswer ⟨Nat.lt_of_not_le htow, rfl⟩ rfl
  | tbTickToNs tick =>
    simp only [exec, execTbTickToNs] at h
    split at h <;> cases h
    · exact .inl rfl
    · exact hanswer rfl rfl
  | tbToNtp tick fudge =>
    simp only [exec, execTbToNtp] at h
    split at h <;> cases h
    · exact .inl rfl
    · exact hanswer rfl rfl
  | hmSetOsc code =>
    simp only [exec, execHmSetOsc] at h
    split at h
    · next x hx => cases h; exact hanswer ⟨x, ofCode?_one_ne_minorAlarm hx, rfl⟩ rfl
    · cases h; exact .inl rfl
  | hmSetGps code =>
    simp only [exec, execHmSetGps] at h
    split at h
    · next x hx => cases h; exact hanswer ⟨x, rfl⟩ rfl
    · cases h; exact .inl rfl
  | hmSetPll code =>
    simp only [exec, execHmSetPll] at h
    split at h
    · next x hx => cases h; exact hanswer ⟨x, ofCode?_one_ne_minorAlarm hx, rfl⟩ rfl
    · cases h; exact .inl rfl
  | hmSetFll code =>
    simp only [exec, execHmSetFll] at h
    split at h
    · next x hx => cases h; exact hanswer ⟨x, ofCode?_one_ne_minorAlarm hx, rfl⟩ rfl
    · cases h; exact .inl rfl
  | cdStep phase gpsValid =>
    simp only [exec, execCdStep] at h
    split at h
    · next r hr => cases h; exact hanswer ⟨r, hr, rfl⟩ rfl
    · cases h
  | cfgWrite reg value =>
    simp only [exec, execCfgWrite] at h
    split at h
    · next r hr => cases h; exact hanswer ⟨r.2, hr⟩ rfl
    · cases h; exact .inl rfl
  | readReg reg =>
    simp only [exec, execReadReg] at h
    split at h
    · cases h; exact hanswer rfl rfl
    · split at h <;> cases h
      · exact hanswer rfl rfl
      · exact .inl rfl
  | readPb addr =>
    simp only [exec, execReadPb] at h
    split at h <;> cases h
    · exact .inl rfl
    · exact hanswer rfl rfl

/-! ## The discipline step (R142, R143, R165) -/

/-- What CD.step can do: skip the sample, resync, or steer on the sample that the jump filter passed. -/
theorem cdStep_cases {p : Int} {v : Bool} {r : State × Bool} (h : cdStep p v s = .ok r) :
    r = (countSkipped s, false) ∨ r = (resync (jumpFilter p s).1, true) ∨
      r = (steer (jumpFilter p s).2 (jumpFilter p s).1, true) := by
  unfold cdStep at h
  dsimp only at h
  split at h
  · split at h
    · exact .inr (.inl (Except.ok.inj h).symm)
    · split at h
      · cases h
      · exact .inr (.inr (Except.ok.inj h).symm)
  · exact .inl (Except.ok.inj h).symm

/-- What the gated step of SECOND_TICK can do: skip the sample, or run CD.step on it (R165). -/
theorem tickStep_cases {r : State × Bool} (h : tickStep s = .ok r) :
    r.1 = countSkipped s ∨ cdStep s.sys.pendingPhase.toInt s.gd.fixValid s = .ok r := by
  unfold tickStep at h
  split at h
  · exact .inr h
  · cases h; exact .inl rfl

theorem cdStep_inv {p : Int} {v : Bool} {r : State × Bool} (hlegal : s.build.legal = true)
    (hfits : s.build.fits = true) (h : s.Inv) (hr : cdStep p v s = .ok r) : r.1.Inv := by
  have hfiltered := jumpFilter_preInv p hlegal h.preInv
  obtain rfl | rfl | rfl := cdStep_cases hr <;> dsimp only
  · exact countSkipped_inv h
  · exact resync_inv (by simpa using hlegal) hfiltered
  · exact steer_inv _ (by simpa using hlegal) (by simpa using hfits) hfiltered

theorem tickStep_inv {r : State × Bool} (hlegal : s.build.legal = true) (hfits : s.build.fits = true) (h : s.Inv)
    (hr : tickStep s = .ok r) : r.1.Inv := by
  obtain hr | hr := tickStep_cases hr
  · rw [hr]; exact countSkipped_inv h
  · exact cdStep_inv hlegal hfits h hr

/-- Aging and the advance of the date, before the step of SECOND_TICK (R164). -/
theorem hmAge_tbAdvance_inv (hlegal : s.build.legal = true) (hfits : s.build.fits = true) (h : s.Inv) :
    (hmAge (tbAdvance s)).Inv :=
  hmAge_inv (by simpa using hlegal) (tbAdvance_preInv hfits h.preInv)

/-! ## Every command and every step keep the invariants -/

/-- RESET gives the registers and stores of power-on (R163, R187). -/
theorem blockReset_inv (hlegal : s.build.legal = true) (hfits : s.build.fits = true) : (blockReset s).Inv :=
  (State.powerOn_inv hlegal hfits).congr rfl rfl rfl rfl rfl rfl rfl rfl

theorem effect_inv {i : Instr} (hwf : i.wellFormed = true) (hlegal : s.build.legal = true)
    (hfits : s.build.fits = true) (h : s.Inv) (hu : CommandEffect i s u) : u.Inv := by
  cases i with
  | nop | tbTickToNs | tbToNtp | tbToUnix | tbGetDate | hmShouldRun | hmGetStatus | readReg | readPb =>
    cases hu
    exact h
  | reset =>
    have hreset : (blockReset s).Inv := blockReset_inv hlegal hfits
    simp only [CommandEffect] at hu
    split at hu <;> subst hu
    · exact hreset.congr rfl rfl rfl rfl rfl rfl rfl rfl
    · exact hreset
  | secondTick =>
    have haged := hmAge_tbAdvance_inv hlegal hfits h
    simp only [CommandEffect] at hu
    split at hu
    · obtain ⟨r, hr, rfl⟩ := hu
      have hran := tickStep_inv (by simpa using hlegal) (by simpa using hfits) haged hr
      exact hran.congr rfl rfl rfl rfl rfl rfl rfl rfl
    · exact hu ▸ haged
  | ppsCapture tick =>
    obtain ⟨x, rfl⟩ := hu
    have hcounted : (if s.sys.pendingValid then countSkipped s else s).Inv := by
      split
      · exact countSkipped_inv h
      · exact h
    exact hcounted.congr rfl rfl rfl rfl rfl rfl rfl rfl
  | gpsFeed byte =>
    obtain ⟨r, hr, rfl⟩ := hu
    exact gdFeed_inv hlegal hfits h hr
  | tbSetDate week off tow =>
    obtain ⟨htow, rfl⟩ := hu
    simp only [Instr.wellFormed, fitsS16, Bool.and_eq_true, decide_eq_true_eq] at hwf
    have hset := tbSetDate_preInv hfits week h.preInv htow (off := off) (by omega)
    exact (State.inv_iff _).mpr ⟨hset, by simpa using h.gpsNotLost⟩
  | tbAdvance => exact hu ▸ (State.inv_iff _).mpr ⟨tbAdvance_preInv hfits h.preInv, by simpa using h.gpsNotLost⟩
  | hmSetOsc code => obtain ⟨x, hx, rfl⟩ := hu; exact setOscStatus_inv hlegal h.preInv hx
  | hmSetGps code => obtain ⟨x, rfl⟩ := hu; exact setGpsStatus_inv x hlegal h.preInv
  | hmSetPll code => obtain ⟨x, hx, rfl⟩ := hu; exact setPllStatus_inv hlegal h.preInv hx
  | hmSetFll code => obtain ⟨x, hx, rfl⟩ := hu; exact setFllStatus_inv hlegal h.preInv hx
  | hmResetGpsWdt => exact hu ▸ resetGpsWatchdog_inv h
  | hmResetFllWdt => exact hu ▸ resetFllWatchdog_inv h
  | hmUpdate => exact hu ▸ hmUpdate_inv hlegal h.preInv
  | cdEnterHoldover =>
    have hcd := cdEnterHoldover_ok h.preInv.discipline
    refine hu ▸ (State.inv_iff _).mpr ⟨h.preInv.of_discipline ?_ ?_ ?_ ?_ ?_ ?_ ?_ hcd, ?_⟩
    case refine_8 => simpa using h.gpsNotLost
    all_goals simp
  | cdLeaveHoldover duration =>
    have hcd := cdLeaveHoldover_ok hlegal duration h.preInv.discipline
    exact hu ▸ (State.inv_iff _).mpr ⟨h.preInv.withCd hcd, h.gpsNotLost⟩
  | cdStep phase gpsValid => obtain ⟨r, hr, rfl⟩ := hu; exact cdStep_inv hlegal hfits h hr
  | cfgWrite reg value => obtain ⟨v, hset⟩ := hu; exact cfgSet_inv hfits h hset

/-- The invariants do not speak of what the start of a command and its answer write (R54). -/
theorem exec_inv {i : Instr} (hwf : i.wellFormed = true) (hlegal : s.build.legal = true) (hfits : s.build.fits = true)
    (h : s.Inv) (ht : exec i s = .next t) : t.Inv := by
  have hstart : s.start.Inv := h.congr rfl rfl rfl rfl rfl rfl rfl rfl
  obtain rfl | ⟨u, r0, r1, hu, rfl⟩ := exec_effect ht
  · exact h.congr rfl rfl rfl rfl rfl rfl rfl rfl
  · exact (effect_inv hwf (by exact hlegal) (by exact hfits) hstart hu).congr rfl rfl rfl rfl rfl rfl rfl rfl

/-- Settles O12: a step that answers a next state waits, rejects a reserved opcode, or runs a decoded command, which
is well-formed. -/
theorem stepKeepsInvariants : Obligations.StepKeepsInvariants := by
  intro s t hfits h hstep
  cases hlegal : s.build.legal with
  | false => rw [step_of_illegal hlegal] at hstep; cases hstep
  | true =>
    cases hpending : s.pending with
    | nil =>
      rw [step_of_no_pending hlegal hpending] at hstep
      cases hstep
      exact h
    | cons q rest =>
      have haccept : (s.accept q rest).Inv := h.congr rfl rfl rfl rfl rfl rfl rfl rfl
      cases hdecode : decode q.word with
      | ok i =>
        rw [step_of_decode_ok hlegal hpending hdecode] at hstep
        exact exec_inv (wellFormed_of_decode hdecode) (by exact hlegal) (by exact hfits) haccept hstep
      | error e =>
        obtain ⟨op⟩ := e
        rw [step_of_decode_reserved hlegal hpending hdecode] at hstep
        cases hstep
        exact haccept.congr rfl rfl rfl rfl rfl rfl rfl rfl

end Sys2Proof.Machine

/-! SUPPORT. Every well-formed command completes where the invariants hold (R176), with ERR_RANGE on exactly the
operands of R173's table. -/

namespace Sys2Proof.Machine

variable {s : State}

/-! ## No discipline step fails (R37, R176) -/

/-- Where the invariants hold, no divisor of the step is 0 and its history slot is in the ring (R12, R42). -/
theorem steerFault_eq_none (hlegal : s.build.legal = true) (h : s.PreInv) : steerFault s = none := by
  have hsmoothing := Build.one_le_fllSmoothing hlegal
  obtain ⟨hpmin, -, hfmin, -, -, -⟩ := h.config
  obtain ⟨hplow, -, hflow, -, -, -, -, hhead⟩ := h.discipline
  have hdivisor : fllDivisor s ≠ 0 := Nat.mul_ne_zero (by omega) (by omega)
  unfold steerFault
  rw [if_neg, if_neg]
  · omega
  · rintro (hzero | ⟨-, hzero⟩)
    · omega
    · exact hdivisor hzero

theorem cdStep_completes (p : Int) (v : Bool) (hlegal : s.build.legal = true) (h : s.Inv) :
    ∃ r, cdStep p v s = .ok r := by
  have hnone := steerFault_eq_none (by simpa using hlegal) (jumpFilter_preInv p hlegal h.preInv)
  unfold cdStep
  dsimp only
  rw [hnone]
  split
  · split <;> exact ⟨_, rfl⟩
  · exact ⟨_, rfl⟩

theorem tickStep_completes (hlegal : s.build.legal = true) (h : s.Inv) : ∃ r, tickStep s = .ok r := by
  unfold tickStep
  split
  · exact cdStep_completes _ _ hlegal h
  · exact ⟨_, rfl⟩

/-! ## Operands (R173) -/

/-- A sub-status operand is rejected exactly above the top code (R132 to R135). -/
theorem ofCode?_eq_none_iff {top code : Nat} (htop : top ≤ 2) : SubStatus.ofCode? top code = none ↔ top < code := by
  unfold SubStatus.ofCode?
  split
  · next hlt => simp [hlt]
  · next hle =>
    have : code = 0 ∨ code = 1 ∨ code = 2 := by omega
    obtain rfl | rfl | rfl := this <;> simp [hle]

theorem isRegisterNumber_number (r : Reg) : isRegisterNumber r.number := by
  unfold isRegisterNumber
  cases r <;> decide

/-- Each range of register numbers has a register for every number in it (R22 to R34). -/
theorem ofNumber?_isSome {reg : Nat} (h : isRegisterNumber reg) : (Reg.ofNumber? reg).isSome = true := by
  have hrange {lo len : Nat} (hall : ∀ k < len, (Reg.ofNumber? (lo + k)).isSome = true) (hlo : lo ≤ reg)
      (hhi : reg < lo + len) : (Reg.ofNumber? reg).isSome = true := by
    have := hall (reg - lo) (by omega)
    rwa [Nat.add_sub_of_le hlo] at this
  obtain h | h | h | h | h | h | h | h | h | h := h
  · exact hrange (lo := 0x0000) (len := 3) (by decide) (by omega) (by omega)
  · exact hrange (lo := 0x0100) (len := 8) (by decide) (by omega) (by omega)
  · exact hrange (lo := 0x0110) (len := 6) (by decide) (by omega) (by omega)
  · exact hrange (lo := 0x0120) (len := 5) (by decide) (by omega) (by omega)
  · exact hrange (lo := 0x0200) (len := 10) (by decide) (by omega) (by omega)
  · exact hrange (lo := 0x0300) (len := 20) (by decide) (by omega) (by omega)
  · exact hrange (lo := 0x0320) (len := 3) (by decide) (by omega) (by omega)
  · exact hrange (lo := 0x0500) (len := 8) (by decide) (by omega) (by omega)
  · exact hrange (lo := 0x0600) (len := 2) (by decide) (by omega) (by omega)
  · exact hrange (lo := 0x0700) (len := 5) (by decide) (by omega) (by omega)

/-- The numbers that READ_REG finds a register for are those of the tables (R22 to R34). -/
theorem ofNumber?_isSome_iff (reg : Nat) : (Reg.ofNumber? reg).isSome = true ↔ isRegisterNumber reg := by
  refine ⟨fun h => ?_, ofNumber?_isSome⟩
  obtain ⟨r, hr⟩ := Option.isSome_iff_exists.mp h
  have hnumber : r.number = reg := by simpa using List.find?_some hr
  exact hnumber ▸ isRegisterNumber_number r

/-! ## Completion -/

/-- `i` completes from `s`, with ERR_RANGE where R173's table rejects it and OK elsewhere. -/
def CompletesByTable (i : Instr) (s : State) : Prop :=
  ∃ t, exec i s = .next t ∧ (rangeRejects i s → t.resp.status = .errRange) ∧
    (¬ rangeRejects i s → t.resp.status = .ok)

theorem CompletesByTable.of_reject {i : Instr} (hreject : rangeRejects i s) (h : exec i s = .next (s.reject .errRange)) :
    CompletesByTable i s :=
  ⟨_, h, fun _ => rfl, fun hno => absurd hreject hno⟩

theorem CompletesByTable.of_answer {i : Instr} {u : State} {r0 : Quad} {r1 : Word} (haccept : ¬ rangeRejects i s)
    (h : exec i s = .next (u.answer r0 r1)) : CompletesByTable i s :=
  ⟨_, h, fun hreject => absurd hreject haccept, fun _ => rfl⟩

/-- A command whose one guard is its row of R173. -/
theorem CompletesByTable.of_guard {i : Instr} {u : State} {r0 : Quad} {r1 : Word} {guard : Prop} [Decidable guard]
    (hrow : rangeRejects i s ↔ guard)
    (h : exec i s = if guard then .next (s.reject .errRange) else .next (u.answer r0 r1)) : CompletesByTable i s := by
  by_cases hguard : guard
  · exact .of_reject (hrow.mpr hguard) (h.trans (if_pos hguard))
  · exact .of_answer (fun hreject => hguard (hrow.mp hreject)) (h.trans (if_neg hguard))

/-- A sub-status setter, whose operand is rejected above its top code. -/
theorem CompletesByTable.of_code {i : Instr} {top code : Nat} {f : SubStatus → State} (htop : top ≤ 2)
    (hrejects : rangeRejects i s ↔ top < code)
    (hsome : ∀ x, SubStatus.ofCode? top code = some x → exec i s = .next ((f x).answer 0 0))
    (hnone : SubStatus.ofCode? top code = none → exec i s = .next (s.reject .errRange)) : CompletesByTable i s := by
  cases hcode : SubStatus.ofCode? top code with
  | none => exact .of_reject (hrejects.mpr ((ofCode?_eq_none_iff htop).mp hcode)) (hnone hcode)
  | some x =>
    refine .of_answer (fun hreject => ?_) (hsome x hcode)
    rw [(ofCode?_eq_none_iff htop).mpr (hrejects.mp hreject)] at hcode
    cases hcode

/-- Settles O9: the commands without a row in R173's table answer, those with one test it first, and the three that
could fail do not where the invariants hold. -/
theorem everyCommandCompletes : Obligations.EveryCommandCompletes := by
  intro s i _ hlegal hfits h
  have hstart : s.start.Inv := h.congr rfl rfl rfl rfl rfl rfl rfl rfl
  change CompletesByTable i s
  cases i with
  | nop | reset | tbAdvance | tbToUnix | tbGetDate | hmResetGpsWdt | hmResetFllWdt | hmUpdate | hmShouldRun
  | hmGetStatus | cdEnterHoldover | cdLeaveHoldover => exact .of_answer id rfl
  | ppsCapture tick => exact .of_guard (guard := s.build.tickHz ≤ tick) Iff.rfl rfl
  | tbTickToNs tick => exact .of_guard (guard := s.build.tickHz ≤ tick) Iff.rfl rfl
  | tbToNtp tick fudge => exact .of_guard (guard := s.build.tickHz ≤ tick) Iff.rfl rfl
  | tbSetDate week off tow => exact .of_guard (guard := s.build.weekSeconds ≤ tow) Iff.rfl rfl
  | readPb addr => exact .of_guard (guard := s.build.maxPayload < addr) Iff.rfl rfl
  | hmSetOsc code =>
    exact .of_code (top := 1) (by decide) Iff.rfl (fun x hx => by simp only [exec, execHmSetOsc, hx]; rfl)
      (fun hx => by simp only [exec, execHmSetOsc, hx])
  | hmSetGps code =>
    exact .of_code (top := 2) (by decide) Iff.rfl (fun x hx => by simp only [exec, execHmSetGps, hx]; rfl)
      (fun hx => by simp only [exec, execHmSetGps, hx])
  | hmSetPll code =>
    exact .of_code (top := 1) (by decide) Iff.rfl (fun x hx => by simp only [exec, execHmSetPll, hx]; rfl)
      (fun hx => by simp only [exec, execHmSetPll, hx])
  | hmSetFll code =>
    exact .of_code (top := 1) (by decide) Iff.rfl (fun x hx => by simp only [exec, execHmSetFll, hx]; rfl)
      (fun hx => by simp only [exec, execHmSetFll, hx])
  | gpsFeed byte =>
    obtain ⟨r, hr⟩ := gdFeed_completes (BitVec.ofNat 8 byte) (by exact hfits) hstart
    exact .of_answer id (by simp only [exec, execGpsFeed, hr]; rfl)
  | cdStep phase gpsValid =>
    obtain ⟨r, hr⟩ := cdStep_completes phase gpsValid (by exact hlegal) hstart
    exact .of_answer id (by simp only [exec, execCdStep, hr]; rfl)
  | secondTick =>
    have haged := hmAge_tbAdvance_inv (by exact hlegal) (by exact hfits) hstart
    obtain ⟨r, hr⟩ := tickStep_completes (by simpa using hlegal) haged
    cases hpending : (hmAge (tbAdvance s.start)).sys.pendingValid with
    | true => exact .of_answer id (by simp only [exec, execSecondTick, hpending, hr, if_true]; rfl)
    | false => exact .of_answer id (by simp only [exec, execSecondTick, hpending]; rfl)
  | cfgWrite reg value =>
    cases hset : cfgSet reg value s.start with
    | none =>
      exact .of_reject ((cfgSet_eq_none_iff reg value s.start).mp hset) (by simp only [exec, execCfgWrite, hset])
    | some r =>
      refine .of_answer (fun hreject => ?_) (by simp only [exec, execCfgWrite, hset]; rfl)
      rw [(cfgSet_eq_none_iff reg value s.start).mpr hreject] at hset
      cases hset
  | readReg reg =>
    cases hreg : Reg.ofNumber? reg with
    | some r =>
      have hlisted : isRegisterNumber reg := (ofNumber?_isSome_iff reg).mp (by rw [hreg]; rfl)
      exact .of_answer (fun hreject => hreject.1 hlisted) (by simp only [exec, execReadReg, hreg]; rfl)
    | none =>
      have hunlisted : ¬ isRegisterNumber reg := fun hlisted => by simpa [hreg] using ofNumber?_isSome hlisted
      by_cases hentry : 0x0400 ≤ reg ∧ reg < 0x0400 + s.build.phaseHistoryLen ∧ reg - 0x0400 < s.cd.histCount.toNat
      · exact .of_answer (fun hreject => hreject.2 hentry) (by simp only [exec, execReadReg, hreg, if_pos hentry]; rfl)
      · exact .of_reject ⟨hunlisted, hentry⟩ (by simp only [exec, execReadReg, hreg, if_neg hentry])

end Sys2Proof.Machine

/-! SUPPORT. Which units a command writes (R21 to R33, R38): what the operations with several outcomes keep, and the
statement over every command. -/

namespace Sys2Proof.Machine

variable {s u : State}

/-! ## What the operations with several outcomes leave alone -/

/-- CD.step leaves the date, the decoder, the sequencing and the configuration registers, and PB. -/
theorem cdStep_keeps {p : Int} {v : Bool} {r : State × Bool} (h : cdStep p v s = .ok r) :
    r.1.tb = s.tb ∧ r.1.gd = s.gd ∧ r.1.sys = s.sys ∧ r.1.cfg = s.cfg ∧ r.1.pb = s.pb ∧ s.KeepsHost r.1 := by
  obtain rfl | rfl | rfl := cdStep_cases h <;> simp [State.KeepsHost]

theorem tickStep_keeps {r : State × Bool} (h : tickStep s = .ok r) :
    r.1.tb = s.tb ∧ r.1.gd = s.gd ∧ r.1.sys = s.sys ∧ r.1.cfg = s.cfg ∧ r.1.pb = s.pb ∧ s.KeepsHost r.1 := by
  obtain hr | hr := tickStep_cases h
  · simp [hr, State.KeepsHost]
  · exact cdStep_keeps hr

/-- GD.feed leaves the sequencing and the configuration registers, and PH. -/
theorem gdFeed_keeps {b : Byte} {r : State × FeedEvent} (h : gdFeed b s = .ok r) :
    r.1.sys = s.sys ∧ r.1.cfg = s.cfg ∧ r.1.ph = s.ph ∧ s.KeepsHost r.1 := by
  have hfed := gdFeed_fedFrom b s
  rw [h] at hfed
  obtain ⟨u, ⟨-, -, -, hsys, hcfg, hph, hbuild, hindex, hpending, henv, -⟩, -, hres⟩ := hfed
  obtain rfl | ⟨n, rfl⟩ := hres <;>
    simp [State.KeepsHost, hsys, hcfg, hph, hbuild, hindex, hpending, henv]

/-- CFG_WRITE leaves all but the configuration and ClockDiscipline (R167). -/
theorem cfgSet_keeps {reg value : Nat} {v : Int} (h : cfgSet reg value s = some (u, v)) :
    u.tb = s.tb ∧ u.gd = s.gd ∧ u.hm = s.hm ∧ u.sys = s.sys ∧ u.pb = s.pb ∧ u.ph = s.ph ∧ s.KeepsHost u ∧
      u.events = s.events := by
  unfold cfgSet at h
  dsimp only at h
  split at h <;> cases h <;> simp [reclampPll, reclampFll, State.KeepsHost]

/-! ## The statement -/

/-- Settles O14: command by command, the effect keeps every unit of which the command is not a writer. -/
theorem onlyItsWritersChangeState : Obligations.OnlyItsWritersChangeState := by
  intro i s t h
  obtain rfl | ⟨u, r0, r1, hu, rfl⟩ := exec_effect h
  · simp [State.KeepsHost]
  cases i with
  | nop | tbTickToNs | tbToNtp | tbToUnix | tbGetDate | hmShouldRun | hmGetStatus | readReg | readPb | tbAdvance
  | hmResetGpsWdt | hmResetFllWdt | hmUpdate | cdEnterHoldover | cdLeaveHoldover =>
    cases hu
    simp [State.KeepsHost]
  | reset =>
    simp only [CommandEffect] at hu
    split at hu <;> subst hu <;> simp [State.KeepsHost]
  | secondTick =>
    simp only [CommandEffect] at hu
    split at hu
    · obtain ⟨r, hr, rfl⟩ := hu
      obtain ⟨-, hgd, -, hcfg, hpb, hbuild, hpending, henv, hindex⟩ := tickStep_keeps hr
      simp [State.KeepsHost, hgd, hcfg, hpb, hbuild, hpending, henv, hindex]
    · simp [hu, State.KeepsHost]
  | ppsCapture tick =>
    obtain ⟨x, rfl⟩ := hu
    split <;> simp [State.KeepsHost]
  | gpsFeed byte =>
    obtain ⟨r, hr, rfl⟩ := hu
    obtain ⟨hsys, hcfg, hph, hbuild, hpending, henv, hindex⟩ := gdFeed_keeps hr
    simp [State.KeepsHost, hsys, hcfg, hph, hbuild, hpending, henv, hindex]
  | tbSetDate week off tow => obtain ⟨-, rfl⟩ := hu; simp [State.KeepsHost]
  | hmSetOsc code | hmSetPll code | hmSetFll code => obtain ⟨x, -, rfl⟩ := hu; simp [State.KeepsHost]
  | hmSetGps code => obtain ⟨x, rfl⟩ := hu; simp [State.KeepsHost]
  | cdStep phase gpsValid =>
    obtain ⟨r, hr, rfl⟩ := hu
    obtain ⟨htb, hgd, hsys, hcfg, hpb, hbuild, hpending, henv, hindex⟩ := cdStep_keeps hr
    simp [State.KeepsHost, htb, hgd, hsys, hcfg, hpb, hbuild, hpending, henv, hindex]
  | cfgWrite reg value =>
    obtain ⟨v, hset⟩ := hu
    obtain ⟨htb, hgd, hhm, hsys, hpb, hph, ⟨hbuild, hpending, henv, hindex⟩, -⟩ := cfgSet_keeps hset
    simp [State.KeepsHost, htb, hgd, hhm, hsys, hpb, hph, hbuild, hpending, henv, hindex]

end Sys2Proof.Machine

/-! SUPPORT. HM.pps_enabled and the PPS events (R29, R126, R128, R163): every operation emits its events at the end of
the list and leaves the register at what the last PPS event among them says. -/

namespace Sys2Proof.Machine

variable {s t u : State}

/-! ## The relation -/

/-- HM.pps_enabled after one event (R29). -/
def ppsAfter (enabled : Bool) (e : Event) : Bool :=
  match e with
  | .ppsEnable => true
  | .ppsDisable => false
  | _ => enabled

/-- From `s` to `t` events were emitted, and HM.pps_enabled follows them. -/
def State.PpsTracks (s t : State) : Prop :=
  ∃ es, t.events = s.events ++ es ∧ t.hm.ppsEnabled = es.foldl ppsAfter s.hm.ppsEnabled

/-- An operation that emits nothing and leaves the register. -/
theorem State.PpsTracks.of_eq (hevents : t.events = s.events) (hpps : t.hm.ppsEnabled = s.hm.ppsEnabled) :
    s.PpsTracks t :=
  ⟨[], by simp [hevents], by simp [hpps]⟩

theorem State.PpsTracks.refl (s : State) : s.PpsTracks s := .of_eq rfl rfl

theorem State.PpsTracks.trans (h1 : s.PpsTracks t) (h2 : t.PpsTracks u) : s.PpsTracks u := by
  obtain ⟨es, hes, hpps⟩ := h1
  obtain ⟨fs, hfs, hpps'⟩ := h2
  exact ⟨es ++ fs, by rw [hfs, hes, List.append_assoc], by rw [hpps', hpps, List.foldl_append]⟩

/-- The relation speaks of the events and HM.pps_enabled only. -/
theorem State.PpsTracks.congr_left (h : s.PpsTracks u) (hevents : t.events = s.events)
    (hpps : t.hm.ppsEnabled = s.hm.ppsEnabled) : t.PpsTracks u :=
  .trans (.of_eq hevents.symm hpps.symm) h

/-! ## HealthMonitor (R125 to R129) -/

theorem cdEnterHoldover_events (s : State) : ∃ req applied ticks,
    (cdEnterHoldover s).events = s.events ++ [.oscRate req applied, .timerPeriod ticks] :=
  ⟨_, _, _, List.append_assoc _ _ _⟩

/-- HM.update emits PPS_ENABLE when it sets the register, PPS_DISABLE when it clears it, and otherwise no PPS event
(R126 to R128). -/
theorem hmUpdate_ppsTracks (s : State) : s.PpsTracks (hmUpdate s) := by
  unfold State.PpsTracks
  rw [hmUpdate_events, hmUpdate_hm]
  dsimp only
  split
  · exact ⟨[], by simp, rfl⟩
  · cases updateTarget s with
    | ok => exact ⟨[.ppsEnable], rfl, rfl⟩
    | unlock => exact ⟨[.ppsDisable], rfl, rfl⟩
    | holdover =>
      obtain ⟨req, applied, ticks, hevents⟩ := cdEnterHoldover_events s
      exact ⟨_, hevents, rfl⟩

/-- A setter writes another register of HealthMonitor, then updates. -/
theorem hmUpdate_withHm_ppsTracks {x : HealthMonitor} (hx : x.ppsEnabled = s.hm.ppsEnabled) :
    s.PpsTracks (hmUpdate (s.withHm x)) :=
  (hmUpdate_ppsTracks (s.withHm x)).congr_left rfl hx.symm

theorem setOscStatus_ppsTracks (x : SubStatus) (s : State) : s.PpsTracks (setOscStatus x s) :=
  hmUpdate_withHm_ppsTracks rfl

theorem setGpsStatus_ppsTracks (x : SubStatus) (s : State) : s.PpsTracks (setGpsStatus x s) :=
  hmUpdate_withHm_ppsTracks rfl

theorem setPllStatus_ppsTracks (x : SubStatus) (s : State) : s.PpsTracks (setPllStatus x s) :=
  hmUpdate_withHm_ppsTracks rfl

theorem setFllStatus_ppsTracks (x : SubStatus) (s : State) : s.PpsTracks (setFllStatus x s) :=
  hmUpdate_withHm_ppsTracks rfl

theorem hmAge_ppsTracks (s : State) : s.PpsTracks (hmAge s) := hmUpdate_withHm_ppsTracks rfl

theorem lockEvaluation_ppsTracks (f : Int) (s : State) : s.PpsTracks (lockEvaluation f s) := by
  unfold lockEvaluation
  dsimp only
  refine .trans ?_ (.trans (setPllStatus_ppsTracks _ _) (setFllStatus_ppsTracks _ _))
  split
  · exact .of_eq rfl rfl
  · exact .refl s

/-! ## ClockDiscipline (R142, R145, R151) -/

/-- A rate command emits no PPS event. -/
theorem cdCommand_ppsTracks (rate : Int) (s : State) : s.PpsTracks (cdCommand rate s).1 :=
  ⟨[_, _], List.append_assoc _ _ _, rfl⟩

theorem resync_ppsTracks (s : State) : s.PpsTracks (resync s) := by
  have hforced : s.PpsTracks (disciplineReset .resync (s.emit .forceResync)) := ⟨[.forceResync], rfl, rfl⟩
  unfold resync
  dsimp only
  refine .trans (.trans hforced ?_) (.trans (setPllStatus_ppsTracks _ _) (setFllStatus_ppsTracks _ _))
  exact .of_eq (by simp) (by simp)

/-- Between the rate command and the lock evaluation a step emits nothing. -/
theorem bookkeeping_ppsTracks (p f dither slew realized : Int) (active : Bool) (s : State) :
    s.PpsTracks (bookkeeping p f dither (ramps f active (pllFeedback slew realized dither s))) :=
  .of_eq (by simp) (by simp)

theorem steer_ppsTracks (p : Int) (s : State) : s.PpsTracks (steer p s) := by
  have hslewed : s.PpsTracks (pllSlew (lowPass p s).2 (lowPass p s).1).1 := .of_eq (by simp) (by simp)
  have hlearned : s.PpsTracks (if fllActive s then fllUpdate p (pllSlew (lowPass p s).2 (lowPass p s).1).1
      else (pllSlew (lowPass p s).2 (lowPass p s).1).1) := by
    split
    · exact hslewed.trans (.of_eq (by simp) (by simp))
    · exact hslewed
  unfold steer
  dsimp only
  exact ((hlearned.trans (cdCommand_ppsTracks _ _)).trans (bookkeeping_ppsTracks _ _ _ _ _ _ _)).trans
    (lockEvaluation_ppsTracks _ _)

theorem cdStep_ppsTracks {p : Int} {v : Bool} {r : State × Bool} (h : cdStep p v s = .ok r) : s.PpsTracks r.1 := by
  have hfiltered : s.PpsTracks (jumpFilter p s).1 := .of_eq (by simp) (by simp)
  obtain rfl | rfl | rfl := cdStep_cases h <;> dsimp only
  · exact .of_eq rfl rfl
  · exact hfiltered.trans (resync_ppsTracks _)
  · exact hfiltered.trans (steer_ppsTracks _ _)

theorem tickStep_ppsTracks {r : State × Bool} (h : tickStep s = .ok r) : s.PpsTracks r.1 := by
  obtain hr | hr := tickStep_cases h
  · rw [hr]; exact .of_eq rfl rfl
  · exact cdStep_ppsTracks hr

/-! ## GpsDecoder (R111) -/

/-- A timing or status message ends in HM.set_gps_status, an unknown one in nothing of HealthMonitor. -/
theorem dispatch_ppsTracks (n : Nat) (s : State) : s.PpsTracks (dispatch n s).1 := by
  unfold dispatch
  dsimp only
  split
  · unfold foldTiming
    dsimp only
    refine .trans ?_ (setGpsStatus_ppsTracks _ _)
    split <;> exact .of_eq (by simp) (by simp [resetGpsWatchdog])
  · exact .trans (.of_eq (by simp) (by simp [resetGpsWatchdog])) (setGpsStatus_ppsTracks _ _)
  · exact .of_eq (by simp) (by simp [resetGpsWatchdog])

theorem gdFeed_ppsTracks {b : Byte} {r : State × FeedEvent} (h : gdFeed b s = .ok r) : s.PpsTracks r.1 := by
  have hfed := gdFeed_fedFrom b s
  rw [h] at hfed
  obtain ⟨u, ⟨-, hhm, -, -, -, -, -, -, -, -, -, -, hevents⟩, -, hres⟩ := hfed
  have hmoved : s.PpsTracks u := .of_eq hevents (by rw [hhm])
  obtain rfl | ⟨n, rfl⟩ := hres
  · exact hmoved
  · exact hmoved.trans (dispatch_ppsTracks n u)

/-! ## The statement -/

theorem effect_ppsTracks {i : Instr} (hu : CommandEffect i s u) : s.PpsTracks u := by
  cases i with
  | nop | tbTickToNs | tbToNtp | tbToUnix | tbGetDate | hmShouldRun | hmGetStatus | readReg | readPb =>
    cases hu
    exact .refl s
  | tbAdvance | hmResetGpsWdt | hmResetFllWdt | cdLeaveHoldover =>
    cases hu
    exact .of_eq (by simp) (by simp [resetGpsWatchdog, resetFllWatchdog])
  | reset =>
    simp only [CommandEffect] at hu
    split at hu <;> subst hu
    · exact ⟨[.ppsDisable], rfl, rfl⟩
    · next hoff => exact .of_eq rfl (Bool.eq_false_iff.mpr hoff).symm
  | secondTick =>
    have haged : s.PpsTracks (hmAge (tbAdvance s)) :=
      .trans (.of_eq (by simp) (by simp)) (hmAge_ppsTracks (tbAdvance s))
    simp only [CommandEffect] at hu
    split at hu
    · obtain ⟨r, hr, rfl⟩ := hu
      exact (haged.trans (tickStep_ppsTracks hr)).trans (.of_eq rfl rfl)
    · exact hu ▸ haged
  | ppsCapture tick =>
    obtain ⟨x, rfl⟩ := hu
    split <;> exact .of_eq rfl rfl
  | gpsFeed byte => obtain ⟨r, hr, rfl⟩ := hu; exact gdFeed_ppsTracks hr
  | tbSetDate week off tow => obtain ⟨-, rfl⟩ := hu; exact .of_eq (by simp) (by simp)
  | hmSetOsc code => obtain ⟨x, -, rfl⟩ := hu; exact setOscStatus_ppsTracks x s
  | hmSetGps code => obtain ⟨x, rfl⟩ := hu; exact setGpsStatus_ppsTracks x s
  | hmSetPll code => obtain ⟨x, -, rfl⟩ := hu; exact setPllStatus_ppsTracks x s
  | hmSetFll code => obtain ⟨x, -, rfl⟩ := hu; exact setFllStatus_ppsTracks x s
  | hmUpdate => exact hu ▸ hmUpdate_ppsTracks s
  | cdEnterHoldover =>
    obtain ⟨req, applied, ticks, hevents⟩ := cdEnterHoldover_events s
    exact hu ▸ ⟨_, hevents, by simp [ppsAfter]⟩
  | cdStep phase gpsValid => obtain ⟨r, hr, rfl⟩ := hu; exact cdStep_ppsTracks hr
  | cfgWrite reg value =>
    obtain ⟨v, hset⟩ := hu
    obtain ⟨-, -, hhm, -, -, -, -, hevents⟩ := cfgSet_keeps hset
    exact .of_eq hevents (by rw [hhm])

/-- Settles O31: a command starts with no event, and from there HM.pps_enabled follows the events. -/
theorem ppsRegisterIsLastPpsEvent : Obligations.PpsRegisterIsLastPpsEvent := by
  intro i s t h
  obtain rfl | ⟨u, r0, r1, hu, rfl⟩ := exec_effect h
  · rfl
  · obtain ⟨es, hevents, hpps⟩ := effect_ppsTracks hu
    rw [State.answer_events, State.answer_hm, hevents, State.start_events, List.nil_append]
    exact hpps

end Sys2Proof.Machine

/-! SUPPORT. The read-out commands (R21, R60, R168, R169): READ_REG of a register's number answers its value, and the
list of the tables of spec/10_state.md is the list of the model's registers. -/

namespace Sys2Proof.Machine

variable {s : State}

/-- A boolean register reads as 0 or 1 (R21). -/
theorem boolCode_eq_toNat (b : Bool) : boolCode b = b.toNat := by cases b <;> rfl

/-- No two registers share a number (R60). -/
theorem ofNumber?_number (r : Reg) : Reg.ofNumber? r.number = some r := by cases r <;> decide

/-- A command that only answers has no effect (R44). -/
theorem State.keeps_start_answer (s : State) (r0 : Quad) (r1 : Word) :
    s.KeepsBlock (s.start.answer r0 r1) ∧ s.KeepsHost (s.start.answer r0 r1) := by
  simp [State.KeepsBlock, State.KeepsHost]

/-- READ_REG of a register's number answers its value as a 64-bit pattern (R168). -/
theorem exec_readReg_number (r : Reg) (s : State) :
    exec (.readReg r.number) s = .next (s.start.answer (wrap64 (r.value s)) 0) := by
  simp only [exec, execReadReg, ofNumber?_number]

/-- READ_PB within PB answers the byte there (R169). -/
theorem exec_readPb_of_le {addr : Nat} (h : addr ≤ s.build.maxPayload) :
    exec (.readPb addr) s = .next (s.start.answer (wrap64 ((Cells.read s.pb addr).toNat : Int)) 0) := by
  simp only [exec, execReadPb, if_neg (Nat.not_lt.mpr h)]

/-- Settles O50: the tables list each register once, with its number and value; a byte fits the 64 bits of r0. -/
theorem readOutReturnsTheState : Obligations.ReadOutReturnsTheState := by
  intro s
  constructor
  · have hall : ∀ p ∈ Reg.all.map (fun r => (r.number, r.value s)),
        ∃ t, exec (.readReg p.1) s = .next t ∧ t.resp = ⟨.ok, BitVec.ofInt 64 p.2, 0⟩ ∧ t.events = [] ∧
          s.KeepsBlock t ∧ s.KeepsHost t := by
      intro p hp
      obtain ⟨r, -, rfl⟩ := List.mem_map.mp hp
      exact ⟨_, exec_readReg_number r s, rfl, rfl, s.keeps_start_answer _ _⟩
    simpa only [Reg.all, Reg.tbGroup, Reg.gdGroup, Reg.hmGroup, Reg.cdGroup, Reg.cfgGroup, Reg.sysGroup, Reg.idGroup,
      List.flatten_cons, List.flatten_nil, List.cons_append, List.nil_append, List.append_nil, List.map_cons,
      List.map_nil, Reg.number, Reg.value, boolCode_eq_toNat] using hall
  · intro addr haddr
    have hbyte := (Cells.read s.pb addr).isLt
    have hr0 : ((wrap64 ((Cells.read s.pb addr).toNat : Int)).toNat : Int) = (Cells.read s.pb addr).toNat :=
      toNat_ofInt (by omega) (by omega)
    exact ⟨_, exec_readPb_of_le haddr, rfl, Int.ofNat_inj.mp hr0, rfl, rfl, s.keeps_start_answer _ _⟩

end Sys2Proof.Machine

/-! SUPPORT. The read-out commands and NOP (R44, R162): they set the response and start an empty event list, and what they
answer does not depend on what the last command left there. -/

namespace Sys2Proof.Machine

variable {s t : State} {i : Instr}

/-- NOP and the commands that only read: the family of R44 with no side effect. -/
inductive ReadOut : Instr → Prop where
  | nop : ReadOut .nop
  | hmGetStatus : ReadOut .hmGetStatus
  | hmShouldRun : ReadOut .hmShouldRun
  | tbToUnix : ReadOut .tbToUnix
  | tbGetDate : ReadOut .tbGetDate
  | readReg (reg : Nat) : ReadOut (.readReg reg)
  | readPb (addr : Nat) : ReadOut (.readPb addr)
  | tbTickToNs (tick : Nat) : ReadOut (.tbTickToNs tick)
  | tbToNtp (tick : Nat) (fudge : Int) : ReadOut (.tbToNtp tick fudge)

/-- The state after a command that only responds. -/
def State.respond (s : State) (r : Response) : State := { s.start with resp := r }

theorem State.start_answer (s : State) (r0 : Quad) (r1 : Word) : s.start.answer r0 r1 = s.respond ⟨.ok, r0, r1⟩ := rfl

theorem State.reject_eq_respond (s : State) (st : Status) : s.reject st = s.respond ⟨st, 0, 0⟩ := rfl

/-- Responding changes no register, neither store, and nothing of the host's side but the response. -/
theorem State.respond_keeps (s : State) (r : Response) :
    s.KeepsBlock (s.respond r) ∧ s.KeepsHost (s.respond r) ∧ (s.respond r).events = [] := by
  simp [State.KeepsBlock, State.KeepsHost, State.respond]

/-- A read-out command responds and does nothing else: where it has a range to test, it answers or rejects. -/
theorem ReadOut.exec_eq_respond (hi : ReadOut i) (s : State) : ∃ r, exec i s = .next (s.respond r) := by
  have hguard (c : Prop) [Decidable c] (st : Status) (r0 : Quad) (r1 : Word) :
      ∃ r, (if c then Host.Outcome.next (s.reject st) else .next (s.start.answer r0 r1) :
        Host.Outcome State Fault Refusal) = .next (s.respond r) := by
    split
    · exact ⟨_, congrArg _ (s.reject_eq_respond st)⟩
    · exact ⟨_, congrArg _ (s.start_answer r0 r1)⟩
  cases hi with
  | nop | hmGetStatus | hmShouldRun | tbToUnix | tbGetDate => exact ⟨_, rfl⟩
  | readPb addr => exact hguard _ _ _ _
  | tbTickToNs tick => exact hguard _ _ _ _
  | tbToNtp tick fudge => exact hguard _ _ _ _
  | readReg reg =>
    simp only [exec, execReadReg]
    split
    · exact ⟨_, congrArg _ (s.start_answer _ _)⟩
    · split
      · exact ⟨_, congrArg _ (s.start_answer _ _)⟩
      · exact ⟨_, congrArg _ (s.reject_eq_respond _)⟩

/-- A read-out command does not see the response and the events that the last command left. -/
theorem ReadOut.exec_respond (hi : ReadOut i) (s : State) (r : Response) : exec i (s.respond r) = exec i s := by
  cases hi <;> rfl

/-- Settles O16: a read-out command only responds, and does the same in the state with its own response. -/
theorem readersHaveNoSideEffect : Obligations.ReadersHaveNoSideEffect := by
  intro s i hi
  have hread : ReadOut i := by
    obtain rfl | rfl | rfl | rfl | rfl | ⟨n, rfl | rfl | rfl⟩ | ⟨k, f, rfl⟩ := hi <;> constructor
  obtain ⟨r, hr⟩ := hread.exec_eq_respond s
  obtain ⟨hblock, hhost, hevents⟩ := s.respond_keeps r
  refine ⟨s.respond r, hr, ?_, hblock, hhost, hevents, (hread.exec_respond s r).trans hr⟩
  rintro rfl
  cases hr
  rfl

end Sys2Proof.Machine

/-! SUPPORT. Which cell of a store a command can write (R42, R44, R89): a fed byte goes to PB[GD.idx] or nowhere, and a
discipline step pushes at PH[CD.hist_head] or not at all. -/

namespace Sys2Proof.Machine

variable {s t u : State}

/-! ## PB: where a fed byte goes -/

/-- In a fed byte's result the payload buffer is `m` as it was, or `m` with `b` at address `a`. -/
def StoresAtMost (m : Memory) (a : Nat) (b : Byte) : FeedResult → Prop
  | .ok r => r.1.pb = m ∨ r.1.pb = Cells.write m a b
  | .error _ => True

section
variable {m : Memory} {a : Nat} {b : Byte} {r : FeedResult}

theorem StoresAtMost.quiet (h : u.pb = m) : StoresAtMost m a b (quiet u) := .inl h

theorem StoresAtMost.dispatch (n : Nat) (h : u.pb = m) : StoresAtMost m a b (.ok (dispatch n u)) :=
  .inl (by simpa using h)

theorem StoresAtMost.atPbAddress (addr : Nat) (h : StoresAtMost m a b r) :
    StoresAtMost m a b (atPbAddress s addr r) := by
  unfold Machine.atPbAddress
  split
  · exact h
  · trivial

theorem StoresAtMost.overPayload (n : Nat) (h : StoresAtMost m a b r) : StoresAtMost m a b (overPayload s n r) := by
  unfold Machine.overPayload
  split
  · exact h
  · trivial

end

/-- A payload byte is stored at GD.idx (R93, R106). -/
theorem takePayload_storesAtMost (b checksumCode : Byte) (s : State) :
    StoresAtMost s.pb s.gd.idx.toNat b (takePayload b checksumCode s) := by
  unfold takePayload
  refine .atPbAddress _ (.inr ?_)
  dsimp only
  split <;> simp

/-- A SIRF frame stores its payload bytes only (R90 to R96). -/
theorem sirfByte_storesAtMost (st : SirfState) (b : Byte) (s : State) :
    StoresAtMost s.pb s.gd.idx.toNat b (sirfByte st b s) := by
  cases st with
  | payload => exact takePayload_storesAtMost b _ s
  | sync1 | len1 | len2 | ck1 | drain => exact .quiet (by simp)
  | sync2 | end1 => dsimp only [sirfByte]; split <;> exact .quiet (by simp)
  | ck2 => refine .overPayload _ ?_; split <;> exact .quiet (by simp)
  | end2 =>
    dsimp only [sirfByte]
    split
    · exact .overPayload _ (.dispatch _ (by simp))
    · exact .quiet (by simp)

/-- A UBX frame stores its payload bytes only (R102 to R108). -/
theorem ubxByte_storesAtMost (st : UbxState) (b : Byte) (s : State) :
    StoresAtMost s.pb s.gd.idx.toNat b (ubxByte st b s) := by
  cases st with
  | payload => exact takePayload_storesAtMost b _ s
  | sync1 | cls | ident | len1 | len2 | ckA | drain => exact .quiet (by simp)
  | sync2 => dsimp only [ubxByte]; split <;> exact .quiet (by simp)
  | ckB =>
    refine .overPayload _ ?_
    dsimp only
    split
    · exact .dispatch _ (by simp)
    · exact .quiet (by simp)

/-- A data byte of a TSIP frame is stored at GD.idx, or dropped when the frame is over its capacity (R99). -/
theorem tsipStore_storesAtMost {b : Byte} {k : State → FeedResult}
    (hk : ∀ u, u.pb = s.pb ∨ u.pb = Cells.write s.pb s.gd.idx.toNat b → StoresAtMost s.pb s.gd.idx.toNat b (k u)) :
    StoresAtMost s.pb s.gd.idx.toNat b (tsipStore b s k) := by
  unfold tsipStore
  split
  · exact hk s (.inl rfl)
  · split
    · exact hk _ (.inl (by simp))
    · exact .atPbAddress _ (hk _ (.inr (by simp)))

/-- The end of a TSIP frame stores nothing (R101). -/
theorem tsipEnd_storesAtMost {m : Memory} {a : Nat} {b : Byte} (h : u.pb = m) : StoresAtMost m a b (tsipEnd u) := by
  have herr : StoresAtMost m a b (quiet (countCksErr u)) := .quiet (by simpa using h)
  unfold tsipEnd
  split
  · exact .quiet h
  · split
    · split
      · exact herr
      · refine .atPbAddress _ ?_
        split
        · exact .dispatch _ h
        · exact herr
    · exact .overPayload _ (.dispatch _ h)

/-- A TSIP frame stores its data bytes only, a doubled DLE as one (R97 to R101). -/
theorem tsipByte_storesAtMost (st : TsipState) (b : Byte) (s : State) :
    StoresAtMost s.pb s.gd.idx.toNat b (tsipByte st b s) := by
  cases st with
  | idle | ident => dsimp only [tsipByte]; split <;> exact .quiet (by simp)
  | data =>
    dsimp only [tsipByte]
    split
    · exact .quiet (by simp)
    · exact tsipStore_storesAtMost fun _ hu => hu
  | dataDle =>
    dsimp only [tsipByte]
    split
    · next hdle =>
      subst hdle
      exact tsipStore_storesAtMost fun _ hu => hu
    · split
      · exact tsipEnd_storesAtMost (by simp)
      · exact .quiet (by simp)

/-- A fed byte is stored at GD.idx or not at all, whatever the protocol (R89). -/
theorem gdFeed_storesAtMost (b : Byte) (s : State) : StoresAtMost s.pb s.gd.idx.toNat b (gdFeed b s) := by
  unfold gdFeed inFramingState
  split <;> split
  · exact sirfByte_storesAtMost _ b s
  · trivial
  · exact tsipByte_storesAtMost _ b s
  · trivial
  · exact ubxByte_storesAtMost _ b s
  · trivial

/-! ## PH: where a step pushes -/

/-- The history ring, its head, its count and its length are as before: all that R42's `entry` and READ_REG look at. -/
def State.KeepsHistory (s t : State) : Prop :=
  t.ph = s.ph ∧ t.build = s.build ∧ t.cd.histHead = s.cd.histHead ∧ t.cd.histCount = s.cd.histCount

theorem State.KeepsHistory.refl (s : State) : s.KeepsHistory s := ⟨rfl, rfl, rfl, rfl⟩

theorem State.KeepsHistory.trans (h1 : s.KeepsHistory t) (h2 : t.KeepsHistory u) : s.KeepsHistory u := by
  obtain ⟨hph, hbuild, hhead, hcount⟩ := h1
  obtain ⟨hph', hbuild', hhead', hcount'⟩ := h2
  exact ⟨hph'.trans hph, hbuild'.trans hbuild, hhead'.trans hhead, hcount'.trans hcount⟩

theorem jumpFilter_keepsHistory (p : Int) (s : State) : s.KeepsHistory (jumpFilter p s).1 := by
  unfold jumpFilter
  split
  · split <;> exact ⟨rfl, rfl, rfl, rfl⟩
  · exact ⟨rfl, rfl, rfl, rfl⟩

theorem pllRampStep_keepsHistory (f : Int) (s : State) :
    s.KeepsHistory (pllRampStep f s) ∧ (pllRampStep f s).cd.filtered = s.cd.filtered := by
  unfold pllRampStep
  dsimp only
  split
  · split <;> exact ⟨⟨rfl, rfl, rfl, rfl⟩, rfl⟩
  · exact ⟨⟨rfl, rfl, rfl, rfl⟩, rfl⟩

theorem fllRampStep_keepsHistory (active : Bool) (s : State) :
    s.KeepsHistory (fllRampStep active s) ∧ (fllRampStep active s).cd.filtered = s.cd.filtered := by
  unfold fllRampStep
  dsimp only
  split
  · split <;> exact ⟨⟨rfl, rfl, rfl, rfl⟩, rfl⟩
  · exact ⟨.refl s, rfl⟩

/-- From the rate command to the ramps a step leaves the history and the filter output (R151 to R153). -/
theorem ramps_keepsHistory (f rate slew realized dither : Int) (active : Bool) (s : State) :
    s.KeepsHistory (ramps f active (pllFeedback slew realized dither (cdCommand rate s).1)) ∧
      (ramps f active (pllFeedback slew realized dither (cdCommand rate s).1)).cd.filtered = s.cd.filtered := by
  obtain ⟨hpll, hpllF⟩ := pllRampStep_keepsHistory f (pllFeedback slew realized dither (cdCommand rate s).1)
  obtain ⟨hfll, hfllF⟩ := fllRampStep_keepsHistory active
    (pllRampStep f (pllFeedback slew realized dither (cdCommand rate s).1))
  have hcommanded : s.KeepsHistory (pllFeedback slew realized dither (cdCommand rate s).1) := ⟨rfl, rfl, rfl, rfl⟩
  exact ⟨(hcommanded.trans hpll).trans hfll, hfllF.trans hpllF⟩

/-- A steering step runs its bookkeeping, which pushes the filter output, in a state with the history of before; the
lock evaluation follows (R142, R154). -/
theorem steer_eq_lockEvaluation (p : Int) (s : State) : ∃ (u : State) (dither : Int), s.KeepsHistory u ∧
    u.cd.filtered = BitVec.ofInt 32 (lowPass p s).2 ∧
    steer p s = lockEvaluation (lowPass p s).2 (bookkeeping p (lowPass p s).2 dither u) := by
  have hlearned (active : Bool) :
      let slewed := (pllSlew (lowPass p s).2 (lowPass p s).1).1
      let learned := if active then fllUpdate p slewed else slewed
      s.KeepsHistory learned ∧ learned.cd.filtered = BitVec.ofInt 32 (lowPass p s).2 := by
    cases active <;> exact ⟨⟨rfl, rfl, rfl, rfl⟩, rfl⟩
  obtain ⟨hkeeps, hfiltered⟩ := hlearned (fllActive (pllSlew (lowPass p s).2 (lowPass p s).1).1)
  obtain ⟨hramps, hrampsF⟩ := ramps_keepsHistory _ _ _ _ _ _ _
  exact ⟨_, _, hkeeps.trans hramps, hrampsF.trans hfiltered, rfl⟩

/-- The ring is as before, or one entry has been pushed at the head (R42). -/
def State.PushesAtHead (s t : State) : Prop :=
  t.ph = s.ph ∨ ∃ v, t.ph = Cells.write s.ph s.cd.histHead.toNat v

theorem State.PushesAtHead.of_keepsHistory (h1 : s.KeepsHistory t) (h2 : t.PushesAtHead u) : s.PushesAtHead u := by
  obtain ⟨hph, -, hhead, -⟩ := h1
  unfold State.PushesAtHead at h2
  rwa [hph, hhead] at h2

theorem State.PushesAtHead.read_other (h : s.PushesAtHead t) (hwf : Cells.wf s.ph = true) {j : Nat}
    (hj : j ≠ s.cd.histHead.toNat) : Cells.read t.ph j = Cells.read s.ph j := by
  obtain hph | ⟨v, hph⟩ := h <;> rw [hph]
  exact Cells.read_write_other _ hwf hj v

/-- The bookkeeping of a step pushes the filter output at the head (R154). -/
@[simp] theorem bookkeeping_ph (p f dither : Int) (s : State) :
    (bookkeeping p f dither s).ph = Cells.write s.ph s.cd.histHead.toNat (BitVec.ofInt 32 f) := rfl

theorem steer_pushesAtHead (p : Int) (s : State) : s.PushesAtHead (steer p s) := by
  obtain ⟨u, dither, hkeeps, -, hsteer⟩ := steer_eq_lockEvaluation p s
  exact .of_keepsHistory hkeeps (.inr ⟨BitVec.ofInt 32 (lowPass p s).2, by simp [hsteer]⟩)

theorem cdStep_pushesAtHead {p : Int} {v : Bool} {r : State × Bool} (h : cdStep p v s = .ok r) :
    s.PushesAtHead r.1 := by
  obtain rfl | rfl | rfl := cdStep_cases h
  · exact .inl rfl
  · exact .inl (by simp)
  · exact .of_keepsHistory (jumpFilter_keepsHistory p s) (steer_pushesAtHead _ _)

/-- HM.update leaves the history and the last accepted sample, or resets both on entering HOLDOVER (R125 to R127,
R156). -/
theorem hmUpdate_history (s : State) :
    (s.KeepsHistory (hmUpdate s) ∧ (hmUpdate s).cd.prevValid = s.cd.prevValid ∧
      (hmUpdate s).cd.filtered = s.cd.filtered) ∨
    ((hmUpdate s).hm.system = .holdover ∧ (hmUpdate s).cd.prevValid = false) := by
  have hsystem : (hmUpdate s).hm.system = updateTarget s := by rw [hmUpdate_hm]
  have hkept (hcd : (hmUpdate s).cd.histHead = s.cd.histHead ∧ (hmUpdate s).cd.histCount = s.cd.histCount ∧
      (hmUpdate s).cd.prevValid = s.cd.prevValid ∧ (hmUpdate s).cd.filtered = s.cd.filtered) :
      s.KeepsHistory (hmUpdate s) ∧ (hmUpdate s).cd.prevValid = s.cd.prevValid ∧
        (hmUpdate s).cd.filtered = s.cd.filtered := by
    obtain ⟨hhead, hcount, hvalid, hfiltered⟩ := hcd
    exact ⟨⟨by simp, by simp, hhead, hcount⟩, hvalid, hfiltered⟩
  rw [hsystem]
  by_cases hsame : updateTarget s = s.hm.system
  · exact .inl (hkept (by rw [hmUpdate_cd, if_pos hsame]; exact ⟨rfl, rfl, rfl, rfl⟩))
  · cases htarget : updateTarget s with
    | ok =>
      refine .inl (hkept ?_)
      rw [hmUpdate_cd, if_neg hsame, htarget]
      dsimp only
      split <;> exact ⟨rfl, rfl, rfl, rfl⟩
    | unlock => exact .inl (hkept (by rw [hmUpdate_cd, if_neg hsame, htarget]; exact ⟨rfl, rfl, rfl, rfl⟩))
    | holdover => exact .inr ⟨rfl, by rw [hmUpdate_cd, if_neg hsame, htarget]; rfl⟩

/-- In HOLDOVER the tick skips its sample (R130, R165). -/
theorem tickStep_of_holdover (h : s.hm.system = .holdover) : tickStep s = .ok (countSkipped s, false) := by
  simp [tickStep, shouldRunDiscipline, h]

/-- The step of SECOND_TICK pushes at the head that the tick found: aging moves the head only on the way into HOLDOVER,
where no step runs (R129, R156, R164, R165). -/
theorem tickStep_hmAge_pushesAtHead {r : State × Bool} (h : tickStep (hmAge s) = .ok r) : s.PushesAtHead r.1 := by
  have haged : s.KeepsHistory (hmAge s) ∨ (hmAge s).hm.system = .holdover := by
    obtain ⟨hkeeps, -⟩ | ⟨hholdover, -⟩ := hmUpdate_history (s.withHm _)
    · exact .inl hkeeps
    · exact .inr hholdover
  obtain hkeeps | hholdover := haged
  · obtain hr | hr := tickStep_cases h
    · rw [hr]; exact .inl (by simp)
    · exact .of_keepsHistory hkeeps (cdStep_pushesAtHead hr)
  · rw [tickStep_of_holdover hholdover] at h
    cases h
    exact .inl (by simp)

/-! ## The statement -/

theorem exec_gpsFeed_pb {b : Byte} (h : exec (.gpsFeed b.toNat) s = .next t) :
    t.pb = s.pb ∨ t.pb = Cells.write s.pb s.gd.idx.toNat b := by
  obtain rfl | ⟨u, r0, r1, ⟨r, hr, rfl⟩, rfl⟩ := exec_effect h
  · exact .inl (by simp)
  · have hstores := gdFeed_storesAtMost b s.start
    rw [BitVec.ofNat_toNat, BitVec.setWidth_eq] at hr
    rw [hr] at hstores
    exact hstores

theorem exec_cdStep_pushesAtHead {p : Int} {v : Bool} (h : exec (.cdStep p v) s = .next t) : s.PushesAtHead t := by
  obtain rfl | ⟨u, r0, r1, ⟨r, hr, rfl⟩, rfl⟩ := exec_effect h
  · exact .inl (by simp)
  · exact cdStep_pushesAtHead (s := s.start) hr

theorem exec_secondTick_pushesAtHead (h : exec .secondTick s = .next t) : s.PushesAtHead t := by
  obtain rfl | ⟨u, r0, r1, hu, rfl⟩ := exec_effect h
  · exact .inl (by simp)
  · simp only [CommandEffect] at hu
    split at hu
    · obtain ⟨r, hr, rfl⟩ := hu
      have hadvanced : s.KeepsHistory (tbAdvance s.start) := by simp [State.KeepsHistory]
      exact .of_keepsHistory hadvanced (tickStep_hmAge_pushesAtHead hr)
    · exact .inl (by simp [hu])

/-- Only RESET and GPS_FEED write a byte of PB (R38). -/
theorem exec_keeps_pb {i : Instr} (h : exec i s = .next t) (hreset : i ≠ .reset) (hfeed : ∀ b, i ≠ .gpsFeed b)
    (a : Nat) : Cells.read t.pb a = Cells.read s.pb a := by
  obtain ⟨-, -, -, -, -, -, hpb, -⟩ := onlyItsWritersChangeState i s t h
  by_contra hne
  obtain hi | ⟨b, hi⟩ := hpb a hne
  · exact hreset hi
  · exact hfeed b hi

/-- GPS_FEED writes no entry of PH (R38). -/
theorem exec_gpsFeed_keeps_ph {b : Nat} (h : exec (.gpsFeed b) s = .next t) (j : Nat) :
    Cells.read t.ph j = Cells.read s.ph j := by
  obtain ⟨-, -, -, -, -, -, -, hph, -⟩ := onlyItsWritersChangeState _ s t h
  by_contra hne
  simpa using hph j hne

/-- Settles O15: PB by the byte's machine and PH by the step's push; that neither command writes the other store is a
part of O14. -/
theorem storesAreTouchedOnce : Obligations.StoresAreTouchedOnce := by
  intro s t hpb hph
  refine ⟨fun b h => ?feed, fun i hi h => ⟨fun j hj => ?push, ?other⟩⟩
  case feed =>
    have hring := exec_gpsFeed_keeps_ph h
    obtain hsame | hwritten := exec_gpsFeed_pb h
    · simp [hsame, hring]
    · rw [hwritten]
      exact ⟨fun a ha => Cells.read_write_other _ hpb ha b, .inr (Cells.read_write_self _ hpb _ b), hring⟩
  case push =>
    have hpush : s.PushesAtHead t := by
      obtain rfl | ⟨p, v, rfl⟩ := hi
      · exact exec_secondTick_pushesAtHead h
      · exact exec_cdStep_pushesAtHead h
    exact hpush.read_other hph hj
  case other => obtain rfl | ⟨p, v, rfl⟩ := hi <;> exact exec_keeps_pb h (by simp) (by simp)

end Sys2Proof.Machine

/-! SUPPORT. The phase history that READ_REG reads out (R42, R154, R168): a push puts its value in front of the entries
there were, and after an accepted sample nothing but that push has touched them. -/

namespace Sys2Proof.Machine

variable {s t : State}

/-! ## The ring (R42) -/

theorem State.KeepsHistory.phEntry_eq (h : s.KeepsHistory t) (j : Nat) : t.phEntry j = s.phEntry j := by
  obtain ⟨hph, hbuild, hhead, -⟩ := h
  simp only [State.phEntry, hph, hbuild, hhead]

/-- Less than one turn before the head is another slot than the head. -/
theorem ring_slot_ne_head {head len j : Nat} (hhead : head < len) (hj : j + 1 < len) :
    (((head : Int) - (j + 1 : Nat)) % (len : Int)).toNat ≠ head := by
  obtain hlt | hle := Nat.lt_or_ge head (j + 1)
  · rw [← Int.add_emod_right, Int.emod_eq_of_lt (by omega) (by omega)]
    omega
  · rw [Int.emod_eq_of_lt (by omega) (by omega)]
    omega

section
variable (hlen : s.build.phaseHistoryLen ≤ 255)
include hlen

/-- A push counts its entry, up to the length of the ring. -/
theorem State.pushPh_histCount (v : Word) :
    (s.pushPh v).cd.histCount.toNat = min (s.cd.histCount.toNat + 1) s.build.phaseHistoryLen := by
  change (BitVec.ofNat 8 _).toNat = _
  rw [BitVec.toNat_ofNat, Nat.mod_eq_of_lt (by omega)]

variable (hhead : s.cd.histHead.toNat < s.build.phaseHistoryLen)
include hhead

/-- A push moves the head one slot on, around the ring. -/
theorem State.pushPh_histHead (v : Word) :
    (s.pushPh v).cd.histHead.toNat = (s.cd.histHead.toNat + 1) % s.build.phaseHistoryLen := by
  have := Nat.mod_lt (s.cd.histHead.toNat + 1) (Nat.zero_lt_of_lt hhead)
  change (BitVec.ofNat 8 _).toNat = _
  rw [BitVec.toNat_ofNat, Nat.mod_eq_of_lt (by omega)]

/-- After a push, entry `j` lies `j` slots before the slot pushed at, around the ring. -/
theorem State.phEntry_pushPh (v : Word) (j : Nat) :
    (s.pushPh v).phEntry j = Cells.read (Cells.write s.ph s.cd.histHead.toNat v)
      (((s.cd.histHead.toNat : Int) - j) % (s.build.phaseHistoryLen : Int)).toNat := by
  have hslot : (((s.pushPh v).cd.histHead.toNat : Int) - 1 - j) % (s.build.phaseHistoryLen : Int) =
      ((s.cd.histHead.toNat : Int) - j) % (s.build.phaseHistoryLen : Int) := by
    rw [State.pushPh_histHead hlen hhead, Int.natCast_emod, Int.sub_sub, Int.emod_sub_emod]
    congr 1
    omega
  simp only [State.phEntry, State.pushPh_keeps, hslot]
  rfl

/-- The newest entry after a push is the value pushed. -/
theorem State.phEntry_pushPh_zero (hwf : Cells.wf s.ph = true) (v : Word) : (s.pushPh v).phEntry 0 = v := by
  have hslot : ((s.cd.histHead.toNat : Int) - (0 : Nat)) % (s.build.phaseHistoryLen : Int) = s.cd.histHead.toNat := by
    rw [Int.natCast_zero, Int.sub_zero]
    exact Int.emod_eq_of_lt (by omega) (by omega)
  rw [State.phEntry_pushPh hlen hhead, hslot, Int.toNat_natCast]
  exact Cells.read_write_self _ hwf _ v

/-- Each older entry after a push is what the entry before it was, as far as the ring is long. -/
theorem State.phEntry_pushPh_succ (hwf : Cells.wf s.ph = true) (v : Word) {j : Nat}
    (hj : j + 1 < s.build.phaseHistoryLen) : (s.pushPh v).phEntry (j + 1) = s.phEntry j := by
  rw [State.phEntry_pushPh hlen hhead, Cells.read_write_other _ hwf (ring_slot_ne_head hhead hj), State.phEntry,
    Int.sub_sub, Int.natCast_succ, Int.add_comm]

end

/-! ## READ_REG of an entry (R168) -/

/-- No register has a number of the history entries (R60). -/
theorem ofNumber?_entry {j : Nat} (hj : j < 255) : Reg.ofNumber? (0x0400 + j) = none := by
  rw [← Option.not_isSome_iff_eq_none, ofNumber?_isSome_iff, isRegisterNumber]
  omega

/-- An entry already written reads as its signed value (R42, R168). -/
theorem exec_readReg_entry {j : Nat} (hlen : s.build.phaseHistoryLen ≤ 255) (hring : j < s.build.phaseHistoryLen)
    (hcount : j < s.cd.histCount.toNat) :
    exec (.readReg (0x0400 + j)) s = .next (s.start.answer (wrap64 (s.phEntry j).toInt) 0) := by
  simp only [exec, execReadReg, ofNumber?_entry (show j < 255 by omega), Nat.add_sub_cancel_left]
  exact if_pos ⟨by omega, by omega, hcount⟩

/-! ## The step that accepted a sample (R142, R154, R155) -/

theorem exec_cdStep_next {p : Int} {v : Bool} (h : exec (.cdStep p v) s = .next t) :
    ∃ r, cdStep p v s.start = .ok r ∧ t = r.1.answer (wrap64 (boolCode r.2)) 0 := by
  simp only [exec, execCdStep] at h
  split at h
  · next r hr => cases h; exact ⟨r, hr, rfl⟩
  · cases h

/-- An HM.update that leaves an accepted sample has not reset the discipline: the history stands. -/
theorem hmUpdate_of_prevValid (h : (hmUpdate s).cd.prevValid = true) :
    s.KeepsHistory (hmUpdate s) ∧ s.cd.prevValid = true ∧ (hmUpdate s).cd.filtered = s.cd.filtered := by
  obtain ⟨hkeeps, hvalid, hfiltered⟩ | ⟨-, hreset⟩ := hmUpdate_history s
  · exact ⟨hkeeps, hvalid ▸ h, hfiltered⟩
  · rw [hreset] at h; cases h

theorem lockEvaluation_of_prevValid (f : Int) (h : (lockEvaluation f s).cd.prevValid = true) :
    s.KeepsHistory (lockEvaluation f s) ∧ (lockEvaluation f s).cd.filtered = s.cd.filtered := by
  unfold lockEvaluation at h ⊢
  dsimp only at h ⊢
  obtain ⟨hfll, hvalid, hfllF⟩ := hmUpdate_of_prevValid h
  obtain ⟨hpll, -, hpllF⟩ := hmUpdate_of_prevValid (s := State.withHm _ _) hvalid
  have hlatched : s.KeepsHistory (if pllLocked f s then s.withHm { s.hm with reftime := tbToNtp s 0 0 } else s) ∧
      (if pllLocked f s then s.withHm { s.hm with reftime := tbToNtp s 0 0 } else s).cd.filtered = s.cd.filtered := by
    split <;> exact ⟨⟨rfl, rfl, rfl, rfl⟩, rfl⟩
  obtain ⟨hlatch, hlatchF⟩ := hlatched
  exact ⟨hlatch.trans (State.KeepsHistory.trans hpll hfll), (hfllF.trans hpllF).trans hlatchF⟩

/-- A resync leaves no accepted sample (R145, R146). -/
theorem resync_prevValid (s : State) : (resync s).cd.prevValid = false := by
  by_contra hvalid
  obtain ⟨-, hpll, -⟩ := hmUpdate_of_prevValid (s := State.withHm _ _) (Bool.of_not_eq_false hvalid)
  obtain ⟨-, hreset, -⟩ := hmUpdate_of_prevValid (s := State.withHm _ _) hpll
  cases hreset

/-- CD.step answers whether its sample came with a valid fix (R143). -/
theorem cdStep_ran {p : Int} {v : Bool} {r : State × Bool} (h : cdStep p v s = .ok r) : r.2 = v := by
  unfold cdStep at h
  dsimp only at h
  split at h
  · next hv =>
    split at h
    · cases h; exact hv.symm
    · split at h <;> cases h
      exact hv.symm
  · next hv => cases h; exact (Bool.eq_false_of_not_eq_true hv).symm

/-- A steering step that leaves an accepted sample has pushed its filter output, and nothing else, on the history
(R154). -/
theorem steer_pushes {p : Int} (hvalid : (steer p s).cd.prevValid = true) :
    ∃ u, s.KeepsHistory u ∧ (u.pushPh (steer p s).cd.filtered).KeepsHistory (steer p s) := by
  obtain ⟨u, dither, hkeeps, hfiltered, hsteer⟩ := steer_eq_lockEvaluation p s
  rw [hsteer] at hvalid ⊢
  obtain ⟨hlock, hlockF⟩ := lockEvaluation_of_prevValid _ hvalid
  rw [hlockF.trans hfiltered]
  exact ⟨u, hkeeps, .trans ⟨rfl, rfl, rfl, rfl⟩ hlock⟩

/-- CD_STEP with a valid fix that leaves an accepted sample has steered (R142 to R145). -/
theorem cdStep_pushes {p : Int} {r : State × Bool} (h : cdStep p true s = .ok r) (hvalid : r.1.cd.prevValid = true) :
    ∃ u, s.KeepsHistory u ∧ (u.pushPh r.1.cd.filtered).KeepsHistory r.1 := by
  have hran := cdStep_ran h
  obtain rfl | rfl | rfl := cdStep_cases h
  · cases hran
  · rw [resync_prevValid] at hvalid; cases hvalid
  · obtain ⟨u, hkeeps, hpushed⟩ := steer_pushes hvalid
    exact ⟨u, (jumpFilter_keepsHistory p s).trans hkeeps, hpushed⟩

theorem exec_cdStep_pushes {p : Int} (h : exec (.cdStep p true) s = .next t) (hvalid : t.cd.prevValid = true) :
    ∃ u, s.KeepsHistory u ∧ (u.pushPh t.cd.filtered).KeepsHistory t := by
  obtain ⟨r, hr, rfl⟩ := exec_cdStep_next h
  exact cdStep_pushes (s := s.start) hr hvalid

/-! ## The statement -/

/-- The history after a push, in terms of the one before it. -/
theorem State.KeepsHistory.of_push {u : State} {v : Word} (hbefore : s.KeepsHistory u)
    (hafter : (u.pushPh v).KeepsHistory t) (hlen : s.build.phaseHistoryLen ≤ 255)
    (hhead : s.cd.histHead.toNat < s.build.phaseHistoryLen) (hwf : Cells.wf s.ph = true) :
    t.build = s.build ∧ t.cd.histCount.toNat = min (s.cd.histCount.toNat + 1) s.build.phaseHistoryLen ∧
      t.phEntry 0 = v ∧ ∀ j, j + 1 < s.build.phaseHistoryLen → t.phEntry (j + 1) = s.phEntry j := by
  have hold := hbefore.phEntry_eq
  have hnew := hafter.phEntry_eq
  obtain ⟨hph, hbuild, hhead', hcount⟩ := hbefore
  obtain ⟨-, hbuildt, -, hcountt⟩ := hafter
  rw [← hbuild] at hlen hhead ⊢
  rw [← hhead'] at hhead
  rw [← hph] at hwf
  rw [hcountt, ← hcount]
  refine ⟨hbuildt, State.pushPh_histCount hlen v, ?_, fun j hj => ?_⟩
  · rw [hnew, State.phEntry_pushPh_zero hlen hhead hwf]
  · rw [hnew, State.phEntry_pushPh_succ hlen hhead hwf v hj, hold]

/-- A signed 32-bit value fits the 64 bits of r0 (R54). -/
theorem wrap64_toInt (v : Word) : (wrap64 v.toInt).toInt = v.toInt := by
  have hlow := v.le_toInt
  have hhigh := v.toInt_lt
  exact toInt_ofInt64 (by omega) (by omega)

/-- Settles O45: the step's push is the only change of the history, and READ_REG reads its entries. -/
theorem historyIsPushed : Obligations.HistoryIsPushed := by
  intro s t p hlegal hinv h hvalid
  obtain ⟨hring, hlen⟩ := Build.phaseHistoryLen_bounds hlegal
  obtain ⟨u, hbefore, hafter⟩ := exec_cdStep_pushes h hvalid
  obtain ⟨hbuild, hcount, hnewest, holder⟩ := hbefore.of_push hafter hlen hinv.histHead hinv.phForm
  have hread {j : Nat} (hj : j < t.cd.histCount.toNat) :
      exec (.readReg (0x0400 + j)) t = .next (t.start.answer (wrap64 (t.phEntry j).toInt) 0) :=
    exec_readReg_entry (hbuild ▸ hlen) (by rw [hbuild]; omega) hj
  refine ⟨hcount, ⟨_, hread (j := 0) (by omega), rfl, ?_⟩, fun j hj => ?_⟩
  · simp only [State.answer_resp, hnewest, wrap64_toInt]
  · refine ⟨_, _, hread hj, exec_readReg_entry hlen (by omega) (by omega), ?_, rfl⟩
    simp only [State.answer_resp, holder j (by omega)]

end Sys2Proof.Machine

/-! SUPPORT. The statements about the command word: the decoder reads the fields that R52 numbers, and the encoder gives
back a decoded word with every bit that no operand form names set to 0 (R52, R53, R55, R58). -/

namespace Sys2Proof

open Machine

/-! ## A word and its fields (R52) -/

/-- Two words with the same three fields are the same word. -/
theorem word_ext {v w : CmdWord} (hop : opField v = opField w) (ha : fieldA v = fieldA w)
    (hb : fieldB v = fieldB w) : v = w := by
  have hop := congrArg BitVec.toNat hop
  have ha := congrArg BitVec.toNat ha
  have hb := congrArg BitVec.toNat hb
  simp only [opField, fieldA, fieldB, BitVec.extractLsb'_toNat, Nat.shiftRight_eq_div_pow] at hop ha hb
  have := v.isLt
  have := w.isLt
  exact BitVec.eq_of_toNat_eq (by omega)

theorem opField_append (op : Byte) (a b : Word) : opField (op ++ (a ++ b)) = op := BitVec.extractLsb'_append_eq_left

theorem fieldA_append (op : Byte) (a b : Word) : fieldA (op ++ (a ++ b)) = a :=
  (BitVec.extractLsb'_append_eq_of_add_le (by decide)).trans BitVec.extractLsb'_append_eq_left

theorem fieldB_append (op : Byte) (a b : Word) : fieldB (op ++ (a ++ b)) = b :=
  (BitVec.extractLsb'_append_eq_of_add_le (by decide)).trans BitVec.extractLsb'_append_eq_right

/-- A word is its three fields, the opcode highest. -/
theorem append_fields (w : CmdWord) : opField w ++ (fieldA w ++ fieldB w) = w :=
  word_ext (opField_append _ _ _) (fieldA_append _ _ _) (fieldB_append _ _ _)

/-! ## An operand form keeps the bits that it names (R53) -/

theorem ofNat_operandU32 (a : Word) : BitVec.ofNat 32 (operandU32 a) = a := by
  rw [operandU32, BitVec.ofNat_toNat, BitVec.setWidth_eq]

theorem ofInt_operandS32 (a : Word) : BitVec.ofInt 32 (operandS32 a) = a := BitVec.ofInt_toInt

theorem ofNat_operandU16 (a : Word) : BitVec.ofNat 32 (operandU16 a) = a &&& 0xFFFF := by
  apply BitVec.eq_of_toNat_eq
  simp only [operandU16, BitVec.extractLsb'_toNat, BitVec.toNat_ofNat, BitVec.toNat_and, Nat.shiftRight_zero]
  rw [show BitVec.toNat (0xFFFF : Word) = 2 ^ 16 - 1 from rfl, Nat.and_two_pow_sub_one_eq_mod]
  omega

theorem ofNat_operandU8 (a : Word) : BitVec.ofNat 32 (operandU8 a) = a &&& 0xFF := by
  apply BitVec.eq_of_toNat_eq
  simp only [operandU8, BitVec.extractLsb'_toNat, BitVec.toNat_ofNat, BitVec.toNat_and, Nat.shiftRight_zero]
  rw [show BitVec.toNat (0xFF : Word) = 2 ^ 8 - 1 from rfl, Nat.and_two_pow_sub_one_eq_mod]
  omega

theorem ofInt_operandS16H_append (a : Word) :
    BitVec.ofInt 16 (operandS16H a) ++ BitVec.ofNat 16 (operandU16 a) = a := by
  simp only [operandS16H, operandU16, BitVec.ofInt_toInt, BitVec.ofNat_toNat, BitVec.setWidth_eq]
  exact BitVec.extractLsb'_append_extractLsb'_eq_extractLsb' rfl |>.trans (by simp)

theorem ite_operandBit0 (b : Word) : (if operandBit0 b = true then (1 : Word) else 0) = b &&& 1 := by
  rw [operandBit0, show (1 : Word) = 1#32 from rfl, BitVec.and_one_eq_setWidth_ofBool_getLsbD]
  cases b.getLsbD 0 <;> rfl

theorem and_ones (a : Word) : a &&& 0xFFFFFFFF = a := BitVec.and_allOnes

theorem and_zeros (a : Word) : a &&& 0 = 0 := BitVec.and_zero

/-- The bits of field a that the command's operand forms name (R53, R55). -/
def Instr.namedA : Instr → Word
  | .ppsCapture _ | .tbTickToNs _ | .cdLeaveHoldover _ | .tbSetDate _ _ _ | .tbToNtp _ _ | .cdStep _ _ => 0xFFFFFFFF
  | .cfgWrite _ _ | .readReg _ | .readPb _ => 0xFFFF
  | .gpsFeed _ | .hmSetOsc _ | .hmSetGps _ | .hmSetPll _ | .hmSetFll _ => 0xFF
  | _ => 0

/-- The bits of field b that the command's operand forms name (R53, R55). -/
def Instr.namedB : Instr → Word
  | .tbSetDate _ _ _ | .tbToNtp _ _ | .cfgWrite _ _ => 0xFFFFFFFF
  | .cdStep _ _ => 1
  | _ => 0

/-- `namedBits` says the same, opcode by opcode. -/
theorem namedBits_opcode (i : Instr) : namedBits i.opcode = 0xFF#8 ++ (i.namedA ++ i.namedB) := by
  cases i <;> simp only [Instr.opcode, Instr.namedA, Instr.namedB] <;> decide +kernel

/-- A decoded command encodes to the fields it was read from, every bit that its forms do not name at 0 (R53, R58). -/
theorem encode_of_decodeFields {op : Byte} {a b : Word} {i : Instr} (h : decodeFields op a b = .ok i) :
    i.opcode = op ∧ i.encodeA = a &&& i.namedA ∧ i.encodeB = b &&& i.namedB := by
  unfold decodeFields at h
  split at h <;> cases h
  all_goals
    next hop =>
      refine ⟨BitVec.eq_of_toNat_eq hop.symm, ?_, ?_⟩ <;>
        simp only [Instr.encodeA, Instr.encodeB, Instr.namedA, Instr.namedB, ofNat_operandU32, ofInt_operandS32,
          ofNat_operandU16, ofNat_operandU8, ofInt_operandS16H_append, ite_operandBit0, and_ones, and_zeros]

/-- Settles O3: each operand form reads back what the encoder wrote (`decode_encode`). -/
theorem decodeOfEncode : Obligations.DecodeOfEncode := fun _ => decode_encode

/-- Settles O4: field by field, the encoder writes what the opcode's forms name and nothing else. -/
theorem encodeOfDecode : Obligations.EncodeOfDecode := by
  intro w i h
  obtain ⟨hop, ha, hb⟩ := encode_of_decodeFields h
  refine ⟨wellFormed_of_decode h, ?_⟩
  calc encode i = opField w ++ ((fieldA w &&& i.namedA) ++ (fieldB w &&& i.namedB)) := by rw [encode, hop, ha, hb]
    _ = (opField w &&& 0xFF#8) ++ ((fieldA w &&& i.namedA) ++ (fieldB w &&& i.namedB)) := by
      rw [show (0xFF#8 : Byte) = BitVec.allOnes 8 from rfl, BitVec.and_allOnes]
    _ = (opField w ++ (fieldA w ++ fieldB w)) &&& namedBits (opField w) := by
      rw [← hop, namedBits_opcode, BitVec.and_append, BitVec.and_append]
    _ = w &&& namedBits (opField w) := by rw [append_fields]

/-! ## The word of a value (R52) -/

section
variable (op : Nat) (a b : Word)

theorem opField_ofNat : opField (BitVec.ofNat 72 (op * 2 ^ 64 + a.toNat * 2 ^ 32 + b.toNat)) = BitVec.ofNat 8 op := by
  have ha := a.isLt
  have hb := b.isLt
  generalize a.toNat = x, b.toNat = y at *
  apply BitVec.eq_of_toNat_eq
  rw [opField, BitVec.extractLsb'_toNat, BitVec.toNat_ofNat, BitVec.toNat_ofNat, Nat.shiftRight_eq_div_pow]
  omega

theorem fieldA_ofNat : fieldA (BitVec.ofNat 72 (op * 2 ^ 64 + a.toNat * 2 ^ 32 + b.toNat)) = a := by
  have ha := a.isLt
  have hb := b.isLt
  apply BitVec.eq_of_toNat_eq
  generalize a.toNat = x, b.toNat = y at *
  rw [fieldA, BitVec.extractLsb'_toNat, BitVec.toNat_ofNat, Nat.shiftRight_eq_div_pow]
  omega

theorem fieldB_ofNat : fieldB (BitVec.ofNat 72 (op * 2 ^ 64 + a.toNat * 2 ^ 32 + b.toNat)) = b := by
  have ha := a.isLt
  have hb := b.isLt
  apply BitVec.eq_of_toNat_eq
  generalize a.toNat = x, b.toNat = y at *
  rw [fieldB, BitVec.extractLsb'_toNat, BitVec.toNat_ofNat, Nat.shiftRight_eq_div_pow]
  omega

end

/-! ## The operand forms as arithmetic (R53) -/

theorem operandU16_eq_mod (a : Word) : operandU16 a = a.toNat % 2 ^ 16 := by
  simp only [operandU16, BitVec.extractLsb'_toNat, Nat.shiftRight_zero]

theorem operandU8_eq_mod (a : Word) : operandU8 a = a.toNat % 2 ^ 8 := by
  simp only [operandU8, BitVec.extractLsb'_toNat, Nat.shiftRight_zero]

theorem operandS16H_eq_div (a : Word) : operandS16H a = a.toInt / 2 ^ 16 := by
  simp only [operandS16H, BitVec.toInt_eq_toNat_cond, BitVec.extractLsb'_toNat, Nat.shiftRight_eq_div_pow]
  split <;> split <;> omega

theorem operandBit0_eq_decide (b : Word) : operandBit0 b = decide (b.toNat % 2 = 1) := by
  rw [operandBit0, BitVec.getLsbD, Nat.testBit_zero]

/-- Settles O1: the word's fields are the operands `a` and `b` and the opcode, so each case is its arm of the map, with
the operand forms written as arithmetic. -/
theorem opcodeMapAndOperandForms : Obligations.OpcodeMapAndOperandForms := by
  intro a b word hword
  have hdecode (op : Nat) : decode (word op) = decodeFields (BitVec.ofNat 8 op) a b := by
    rw [hword, decode, opField_ofNat, fieldA_ofNat, fieldB_ofNat]
  simp only [hdecode, ← operandU16_eq_mod, ← operandU8_eq_mod, ← operandS16H_eq_div, ← operandBit0_eq_decide]
  and_intros <;> rfl

/-- Settles O2: the decoder evaluated on each word. -/
theorem specWordsDecode : Obligations.SpecWordsDecode := by
  unfold Obligations.SpecWordsDecode
  decide +kernel

end Sys2Proof

/-! SUPPORT. The read-out of HealthMonitor (R75, R130, R139, R140): the gate as a condition, and the fields of the packed
status word. -/

namespace Sys2Proof.Machine

/-! ## The gate (R130) -/

theorem shouldRunDiscipline_iff (hm : HealthMonitor) : shouldRunDiscipline hm = true ↔
    hm.system = .ok ∨ (hm.system = .unlock ∧ hm.gps = .ok ∧ hm.osc = .ok) := by
  unfold shouldRunDiscipline
  cases hm.system <;> simp

/-- A boolean result is the answer 1 or 0 (R21). -/
theorem wrap64_boolCode (b : Bool) : (wrap64 (boolCode b) = 1 ↔ b = true) ∧
    (wrap64 (boolCode b) = 0 ∨ wrap64 (boolCode b) = 1) := by cases b <;> decide

/-! ## The packed status word (R75) -/

theorem SubStatus.code_le (x : SubStatus) : x.code ≤ 2 := by cases x <;> decide

theorem SystemStatus.code_le (x : SystemStatus) : x.code ≤ 2 := by cases x <;> decide

/-- Every code fits its byte, so the packed word is a 64-bit value. -/
theorem packedStatus_toNat (hm : HealthMonitor) : (wrap64 (packedStatus hm : Int)).toNat = packedStatus hm := by
  have hsystem := hm.system.code_le
  have hosc := hm.osc.code_le
  have hgps := hm.gps.code_le
  have hpll := hm.pll.code_le
  have hfll := hm.fll.code_le
  rw [wrap64, BitVec.ofInt_natCast, BitVec.toNat_ofNat]
  apply Nat.mod_eq_of_lt
  unfold packedStatus
  split <;> omega

/-- The fields of a 64-bit word that packs five codes and a bit as R75 says. -/
theorem packed_fields {w : Quad} {a b c d e : Nat} {bit : Bool} (ha : a ≤ 2) (hb : b ≤ 2) (hc : c ≤ 2) (hd : d ≤ 2)
    (he : e ≤ 2)
    (hw : w.toNat = a + 2 ^ 8 * b + 2 ^ 16 * c + 2 ^ 24 * d + 2 ^ 32 * e + 2 ^ 40 * (if bit then 1 else 0)) :
    w.extractLsb' 0 8 = BitVec.ofNat 8 a ∧ w.extractLsb' 8 8 = BitVec.ofNat 8 b ∧
      w.extractLsb' 16 8 = BitVec.ofNat 8 c ∧ w.extractLsb' 24 8 = BitVec.ofNat 8 d ∧
      w.extractLsb' 32 8 = BitVec.ofNat 8 e ∧ w.getLsbD 40 = bit ∧ w.extractLsb' 41 23 = 0 := by
  have hfield (k n v : Nat) (h : w.toNat / 2 ^ k % 2 ^ n = v % 2 ^ n) : w.extractLsb' k n = BitVec.ofNat n v :=
    BitVec.eq_of_toNat_eq (by rw [BitVec.extractLsb'_toNat, BitVec.toNat_ofNat, Nat.shiftRight_eq_div_pow, h])
  have hbit : w.getLsbD 40 = bit := by
    rw [BitVec.getLsbD, Nat.testBit_eq_decide_div_mod_eq, hw]
    cases bit <;> simp <;> omega
  refine ⟨hfield 0 8 _ ?_, hfield 8 8 _ ?_, hfield 16 8 _ ?_, hfield 24 8 _ ?_, hfield 32 8 _ ?_, hbit,
    hfield 41 23 0 ?_⟩ <;> split at hw <;> omega

/-- Settles O29: the answer of each read-out is the gate's value and the packed word, and only the response is written. -/
theorem statusReadOut : Obligations.StatusReadOut := by
  refine ⟨fun w => ⟨fun h => by simp only [decode, decodeFields, h], fun h => by simp only [decode, decodeFields, h]⟩,
    fun s => ⟨?gate, ?word⟩⟩
  case gate =>
    obtain ⟨hone, hbool⟩ := wrap64_boolCode (shouldRunDiscipline s.hm)
    obtain ⟨hblock, hhost⟩ := s.keeps_start_answer (wrap64 (boolCode (shouldRunDiscipline s.hm))) 0
    exact ⟨_, rfl, rfl, rfl, hone.trans (shouldRunDiscipline_iff s.hm), hbool, rfl, hblock, hhost⟩
  case word =>
    obtain ⟨hsystem, hosc, hgps, hpll, hfll, hpps, hzero⟩ := packed_fields
      (SystemStatus.code_le _) (SubStatus.code_le _) (SubStatus.code_le _) (SubStatus.code_le _) (SubStatus.code_le _)
      (packedStatus_toNat s.hm)
    obtain ⟨hblock, hhost⟩ := s.keeps_start_answer (wrap64 (packedStatus s.hm : Int)) 0
    exact ⟨_, rfl, rfl, rfl, hsystem, hosc, hgps, hpll, hfll, hpps, hzero, rfl, hblock, hhost⟩

end Sys2Proof.Machine

/-! SUPPORT. Feeding a run of bytes (R88, R89): between two commands only the framing registers and PB have changed until
a frame is dispatched, so a run is followed by those two alone; and what PB holds after a run of stores (R39). -/

namespace Sys2Proof.Machine

/-! ## A run of writes (R39, R40) -/

/-- The store with the values written at the addresses from `a` up. -/
def Cells.writeList {w : Nat} (m : Cells w) (a : Nat) : List (BitVec w) → Cells w
  | [] => m
  | v :: vs => Cells.writeList (Cells.write m a v) (a + 1) vs

section
variable {w : Nat} {m : Cells w}

/-- Writing a list leaves the addresses before and after it alone. -/
theorem Cells.read_writeList_other (hm : Cells.wf m = true) {a k : Nat} {vs : List (BitVec w)}
    (hk : k < a ∨ a + vs.length ≤ k) : Cells.read (Cells.writeList m a vs) k = Cells.read m k := by
  induction vs generalizing m a with
  | nil => rfl
  | cons v vs ih =>
    simp only [List.length_cons] at hk
    rw [Cells.writeList, ih (Cells.wf_write hm a v) (by omega), Cells.read_write_other m hm (by omega)]

/-- Written from address `a` up, value `k` of a list is read at `a + k`. -/
theorem Cells.read_writeList (hm : Cells.wf m = true) (a : Nat) {vs : List (BitVec w)} {k : Nat} (hk : k < vs.length) :
    Cells.read (Cells.writeList m a vs) (a + k) = vs[k] := by
  induction vs generalizing m a k with
  | nil => cases hk
  | cons v vs ih =>
    cases k with
    | zero =>
      rw [Cells.writeList, Cells.read_writeList_other (Cells.wf_write hm a v) (by omega)]
      exact Cells.read_write_self m hm a v
    | succ k =>
      rw [Cells.writeList, show a + (k + 1) = a + 1 + k by omega]
      exact ih (Cells.wf_write hm a v) (a + 1) (Nat.lt_of_succ_lt_succ hk)

end

/-! ## The state between two fed bytes -/

/-- The state after a GPS_FEED that dispatched nothing: framing registers `g`, payload buffer `p`, an empty answer. -/
def State.fed (s : State) (g : GpsDecoder) (p : Memory) : State := { s.start with gd := g, pb := p }

section
variable {s : State} {g g' g'' : GpsDecoder} {p p' p'' : Memory}

@[simp] theorem State.fed_gd : (s.fed g p).gd = g := rfl
@[simp] theorem State.fed_pb : (s.fed g p).pb = p := rfl
@[simp] theorem State.fed_build : (s.fed g p).build = s.build := rfl
@[simp] theorem State.fed_events : (s.fed g p).events = [] := rfl
@[simp] theorem State.fed_resp : (s.fed g p).resp = ⟨.ok, 0, 0⟩ := rfl
@[simp] theorem State.withGd_fed (x : GpsDecoder) : (s.fed g p).withGd x = s.fed x p := rfl
@[simp] theorem State.start_fed : (s.fed g p).start = s.fed g p := rfl

@[simp] theorem State.setFraming_fed (c : Byte) : (s.fed g p).setFraming c = s.fed { g with state := c } p := rfl

@[simp] theorem countGarbage_fed (k : Nat) :
    countGarbage k (s.fed g p) = s.fed { g with garbage := wrapAdd32 g.garbage k } p := rfl

@[simp] theorem countCksErr_fed :
    countCksErr (s.fed g p) = s.fed { g with cksErr := wrapAdd32 g.cksErr 1 } p := rfl

@[simp] theorem countFramingErr_fed :
    countFramingErr (s.fed g p) = s.fed { g with framingErr := wrapAdd32 g.framingErr 1 } p := rfl

@[simp] theorem storeByte_fed (b : Byte) : storeByte b (s.fed g p) =
    s.fed { g with idx := BitVec.ofNat 16 (g.idx.toNat + 1) } (Cells.write p g.idx.toNat b) := rfl

@[simp] theorem tsipStartFrame_fed (b : Byte) : tsipStartFrame b (s.fed g p) =
    s.fed { g with id := b, idx := 0, ovf := false, state := TsipState.data.code } p := rfl

/-- Nothing but the framing registers and PB has changed. -/
theorem State.fed_keeps (s : State) (g : GpsDecoder) (p : Memory) :
    (s.fed g p).tb = s.tb ∧ (s.fed g p).hm = s.hm ∧ (s.fed g p).cd = s.cd ∧ (s.fed g p).sys = s.sys ∧
      (s.fed g p).cfg = s.cfg ∧ (s.fed g p).ph = s.ph ∧ (s.fed g p).events = [] ∧ (s.fed g p).oscIdx = 0 ∧
      s.KeepsHost (s.fed g p) :=
  ⟨rfl, rfl, rfl, rfl, rfl, rfl, rfl, rfl, rfl, rfl, rfl, rfl⟩

theorem State.fed_keepsStores (s : State) (g : GpsDecoder) : s.KeepsStores (s.fed g s.pb) :=
  ⟨fun _ => rfl, fun _ => rfl⟩

/-- The bytes of PB after a list was stored from address 0 up. -/
theorem State.pbBytes_fed (hp : Memory.wf p = true) {bytes : List Byte} {n : Nat} (hn : n ≤ bytes.length) :
    (s.fed g (Cells.writeList p 0 bytes)).pbBytes n = bytes.take n := by
  apply List.ext_getElem
  · simp [State.pbBytes, hn]
  · intro k h1 h2
    simp only [List.length_take] at h2
    have hread := Cells.read_writeList hp 0 (vs := bytes) (k := k) (by omega)
    rw [Nat.zero_add] at hread
    simp only [State.pbBytes, State.fed_pb, List.getElem_map, List.getElem_range, List.getElem_take, hread]

/-! ## One fed byte (R88) -/

theorem exec_gpsFeed_of_quiet {b : Byte} (h : gdFeed b s.start = quiet (s.fed g p)) :
    exec (.gpsFeed b.toNat) s = .next (s.fed g p) := by
  simp only [exec, execGpsFeed, BitVec.ofNat_toNat, BitVec.setWidth_eq, h, quiet]
  rfl

theorem exec_gpsFeed_of_dispatch {b : Byte} {n : Nat} {u : State} (h : gdFeed b s.start = .ok (dispatch n u)) :
    exec (.gpsFeed b.toNat) s =
      .next ((dispatch n u).1.answer (BitVec.ofNat 64 (dispatch n u).2.code) 0) := by
  simp only [exec, execGpsFeed, BitVec.ofNat_toNat, BitVec.setWidth_eq, h, wrap64, BitVec.ofInt_natCast]

/-! ## A run of bytes that dispatches nothing -/

/-- A run starts as every command does, with no event and an empty answer. -/
theorem feedAll_eq_fed {bytes : List Byte} (h : bytes ≠ []) (s : State) :
    feedAll bytes s = feedAll bytes (s.fed s.gd s.pb) := by
  cases bytes with
  | nil => exact absurd rfl h
  | cons b rest => rfl

theorem feedAll_cons_of_next {b : Byte} {rest : List Byte} {t : State} (h : exec (.gpsFeed b.toNat) s = .next t) :
    feedAll (b :: rest) s = feedAll rest t := by simp only [feedAll, h]

theorem feedAll_append {bytes rest : List Byte} {t : State} (h : feedAll bytes s = .next t) :
    feedAll (bytes ++ rest) s = feedAll rest t := by
  induction bytes generalizing s with
  | nil => cases h; rfl
  | cons b bytes ih =>
    cases hexec : exec (.gpsFeed b.toNat) s with
    | next u =>
      rw [feedAll_cons_of_next hexec] at h
      rw [List.cons_append, feedAll_cons_of_next hexec]
      exact ih h
    | fault e => simp only [feedAll, hexec, reduceCtorEq] at h
    | refused r => simp only [feedAll, hexec, reduceCtorEq] at h

/-- Fed `bytes`, the framing registers go from `g` to `g'` and PB from `p` to `p'`, and nothing is dispatched. -/
def State.Feeds (s : State) (bytes : List Byte) (g g' : GpsDecoder) (p p' : Memory) : Prop :=
  feedAll bytes (s.fed g p) = .next (s.fed g' p')

theorem State.Feeds.nil : s.Feeds [] g g p p := rfl

theorem State.Feeds.append {l l' : List Byte} (h : s.Feeds l g g' p p') (h' : s.Feeds l' g' g'' p' p'') :
    s.Feeds (l ++ l') g g'' p p'' := (feedAll_append h).trans h'

theorem State.Feeds.cons {b : Byte} {l : List Byte} (h : gdFeed b (s.fed g p) = quiet (s.fed g' p'))
    (h' : s.Feeds l g' g'' p' p'') : s.Feeds (b :: l) g g'' p p'' :=
  (feedAll_cons_of_next (exec_gpsFeed_of_quiet (s := s.fed g p) h)).trans h'

/-- A run that dispatches nothing, from a state as the host finds it. -/
theorem State.Feeds.feedAll_eq {bytes : List Byte} (h : s.Feeds bytes s.gd g' s.pb p') (hne : bytes ≠ []) :
    feedAll bytes s = .next (s.fed g' p') := (feedAll_eq_fed hne s).trans h

/-- A run whose last byte dispatches. -/
theorem State.Feeds.feedAll_dispatch {bytes : List Byte} {b : Byte} {n : Nat} {u : State}
    (h : s.Feeds bytes s.gd g' s.pb p') (hlast : gdFeed b (s.fed g' p') = .ok (dispatch n u)) :
    feedAll (bytes ++ [b]) s =
      .next ((dispatch n u).1.answer (BitVec.ofNat 64 (dispatch n u).2.code) 0) := by
  rw [feedAll_eq_fed (by simp), feedAll_append h]
  exact feedAll_cons_of_next (exec_gpsFeed_of_dispatch (s := s.fed g' p') hlast)

/-! ## A payload of known length: SIRF and UBX (R93, R106) -/

/-- A declared length that PB can hold. -/
theorem takeLength_fed {n tail : Nat} {drainCode cksCode code : Byte} (hmax : n ≤ s.build.maxPayload) :
    takeLength n tail drainCode cksCode code (s.fed g p) =
      s.fed { g with state := if n = 0 then cksCode else code, len := BitVec.ofNat 16 n, idx := 0 } p := by
  unfold takeLength
  dsimp only
  rw [State.fed_build, if_neg (Nat.not_lt.mpr hmax)]
  split <;> rfl

/-- In a machine whose state `code` takes payload bytes, the rest of the payload is stored from GD.idx up, and the
machine goes on to the checksum. -/
theorem feeds_payload {code cksCode : Byte} {bytes : List Byte}
    (htake : ∀ (b : Byte) (g : GpsDecoder) (p : Memory), g.state = code →
      gdFeed b (s.fed g p) = takePayload b cksCode (s.fed g p))
    (hstate : g.state = code) (hlen : g.idx.toNat + bytes.length = g.len.toNat)
    (hmax : g.len.toNat ≤ s.build.maxPayload) (hne : bytes ≠ []) :
    s.Feeds bytes g { g with state := cksCode, idx := g.len } p (Cells.writeList p g.idx.toNat bytes) := by
  induction bytes generalizing g p with
  | nil => exact absurd rfl hne
  | cons b rest ih =>
    have hlt := g.len.isLt
    rw [List.length_cons] at hlen
    have hidx : (BitVec.ofNat 16 (g.idx.toNat + 1)).toNat = g.idx.toNat + 1 :=
      Nat.mod_eq_of_lt (by omega)
    have hbyte : gdFeed b (s.fed g p) = quiet (s.fed { g with
        state := if rest = [] then cksCode else code, idx := BitVec.ofNat 16 (g.idx.toNat + 1) }
        (Cells.write p g.idx.toNat b)) := by
      have hlast : BitVec.ofNat 16 (g.idx.toNat + 1) = g.len ↔ rest = [] := by
        rw [← BitVec.toNat_inj, hidx, ← List.length_eq_zero_iff]
        omega
      rw [htake b g p hstate, takePayload, atPbAddress, State.fed_build, State.fed_gd, if_pos (by omega), storeByte_fed]
      simp only [State.fed_gd, hlast, State.setFraming_fed]
      split
      · rfl
      · rw [← hstate]
    refine .cons hbyte ?_
    by_cases hrest : rest = []
    · subst hrest
      have hlast : BitVec.ofNat 16 (g.idx.toNat + 1) = g.len :=
        BitVec.eq_of_toNat_eq (hidx.trans (by simpa using hlen))
      rw [if_pos rfl, hlast]
      exact .nil
    · rw [if_neg hrest]
      have hfeeds := ih (g := { g with state := code, idx := BitVec.ofNat 16 (g.idx.toNat + 1) })
        (p := Cells.write p g.idx.toNat b) rfl (by change _ + _ = g.len.toNat; rw [hidx]; omega) hmax hrest
      rwa [hidx] at hfeeds

/-- A whole payload, empty or not: after the header the machine is in its checksum state when the declared length is 0,
else in its payload state, and either way the payload leaves it in the checksum state with PB holding the payload. -/
theorem feeds_whole_payload {code cksCode : Byte} {bytes : List Byte}
    (htake : ∀ (b : Byte) (g : GpsDecoder) (p : Memory), g.state = code →
      gdFeed b (s.fed g p) = takePayload b cksCode (s.fed g p))
    (hmax : bytes.length ≤ s.build.maxPayload) (hfits : bytes.length < 2 ^ 16) :
    s.Feeds bytes
      { g with state := if bytes.length = 0 then cksCode else code, len := BitVec.ofNat 16 bytes.length, idx := 0 }
      { g with state := cksCode, len := BitVec.ofNat 16 bytes.length, idx := BitVec.ofNat 16 bytes.length }
      p (Cells.writeList p 0 bytes) := by
  have hlen : (BitVec.ofNat 16 bytes.length).toNat = bytes.length := Nat.mod_eq_of_lt hfits
  by_cases hne : bytes = []
  · subst hne; exact .nil
  · rw [if_neg (by simpa using hne)]
    exact feeds_payload (g := { g with state := code, len := BitVec.ofNat 16 bytes.length, idx := 0 }) htake rfl
      (by rw [hlen]; exact Nat.zero_add _) (by rw [hlen]; exact hmax) hne

end

end Sys2Proof.Machine

/-! SUPPORT. Frames dispatched once (R109 (a)): what a dispatch leaves of the framing registers and the counters, and the
SIRF machine fed a frame (R61, R90 to R95). -/

namespace Sys2Proof.Machine

variable {s : State} {g : GpsDecoder} {p : Memory}

/-! ## The dispatch, case by case (R111) -/

/-- The state in which a dispatched frame is interpreted: counted as good, the GPS watchdog refreshed. -/
def State.counted (s : State) : State := resetGpsWatchdog (s.withGd { s.gd with good := wrapAdd32 s.gd.good 1 })

section
variable {n : Nat}

theorem dispatch_of_timing {week tow : Nat} {off : Int} {valid : Bool}
    (h : (interpret n s.counted).2 = .timing week tow off valid) :
    dispatch n s = (foldTiming week tow off valid (interpret n s.counted).1, .fix) := by
  unfold State.counted at *
  unfold dispatch
  dsimp only at *
  rw [h]

theorem dispatch_of_status (h : (interpret n s.counted).2 = .status) : dispatch n s =
    (setGpsStatus (combineGps (interpret n s.counted).1.gd) (interpret n s.counted).1, .status) := by
  unfold State.counted at *
  unfold dispatch
  dsimp only at *
  rw [h]

theorem dispatch_of_unknown (h : (interpret n s.counted).2 = .unknown) : dispatch n s =
    ((interpret n s.counted).1.withGd { (interpret n s.counted).1.gd with
      unknown := (interpret n s.counted).1.gd.unknown + 1 }, .none) := by
  unfold State.counted at *
  unfold dispatch
  dsimp only at *
  rw [h]
  rfl

end

theorem foldTiming_gd (week tow : Nat) (off : Int) (valid : Bool) (s : State) :
    (foldTiming week tow off valid s).gd = { s.gd with fixValid := valid } := by
  unfold foldTiming
  dsimp only
  split <;> simp

/-- An interpreter moves no counter of R25. -/
theorem interpret_counters (n : Nat) (s : State) :
    (interpret n s).1.gd.good = s.gd.good ∧ (interpret n s).1.gd.garbage = s.gd.garbage ∧
      (interpret n s).1.gd.tooBig = s.gd.tooBig ∧ (interpret n s).1.gd.cksErr = s.gd.cksErr ∧
      (interpret n s).1.gd.framingErr = s.gd.framingErr := by
  have hrefl : s.gd.good = s.gd.good ∧ s.gd.garbage = s.gd.garbage ∧ s.gd.tooBig = s.gd.tooBig ∧
    s.gd.cksErr = s.gd.cksErr ∧ s.gd.framingErr = s.gd.framingErr := ⟨rfl, rfl, rfl, rfl, rfl⟩
  unfold interpret interpretSirf interpretTsip interpretUbx
  split
  · split
    · exact hrefl
    · split <;> exact hrefl
  · split
    · exact hrefl
    · split <;> exact hrefl
  · split
    · exact hrefl
    · split
      · exact hrefl
      · split <;> exact hrefl

/-- A dispatch counts one good frame and leaves GD.state and the other counters of R25 but GD.unknown. -/
theorem dispatch_counters (n : Nat) (s : State) :
    (dispatch n s).1.gd.good = s.gd.good + 1 ∧ (dispatch n s).1.gd.state = s.gd.state ∧
      (dispatch n s).1.gd.garbage = s.gd.garbage ∧ (dispatch n s).1.gd.tooBig = s.gd.tooBig ∧
      (dispatch n s).1.gd.cksErr = s.gd.cksErr ∧ (dispatch n s).1.gd.framingErr = s.gd.framingErr := by
  obtain ⟨hgood, hgarbage, htooBig, hcks, hframing⟩ := interpret_counters n s.counted
  obtain ⟨hstate, -⟩ := interpret_sameFraming n s.counted
  cases h : (interpret n s.counted).2 with
  | timing week tow off valid =>
    rw [dispatch_of_timing h, foldTiming_gd]
    exact ⟨hgood, hstate, hgarbage, htooBig, hcks, hframing⟩
  | status =>
    rw [dispatch_of_status h]
    simp only [setGpsStatus_keeps]
    exact ⟨hgood, hstate, hgarbage, htooBig, hcks, hframing⟩
  | unknown =>
    rw [dispatch_of_unknown h]
    exact ⟨hgood, hstate, hgarbage, htooBig, hcks, hframing⟩

/-- What the three statements say of the state `t` in which a frame's dispatch leaves the machine. -/
theorem dispatch_answer_counters {u t : State} {n : Nat} {r0 : Quad} {r1 : Word}
    (ht : t = (dispatch n u).1.answer r0 r1) :
    t.gd.good.toNat = (u.gd.good.toNat + 1) % 2 ^ 32 ∧ t.gd.state = u.gd.state ∧ t.gd.garbage = u.gd.garbage ∧
      t.gd.tooBig = u.gd.tooBig ∧ t.gd.cksErr = u.gd.cksErr ∧ t.gd.framingErr = u.gd.framingErr := by
  obtain ⟨hgood, hrest⟩ := dispatch_counters n u
  subst ht
  exact ⟨by rw [State.answer_gd, hgood, BitVec.toNat_add]; rfl, hrest⟩

/-- PB after a whole payload: its bytes from address 0 up, and what was there above them. -/
theorem read_fed_writeList (hp : Memory.wf p = true) (bytes : List Byte) :
    (∀ k (hk : k < bytes.length), Cells.read (s.fed g (Cells.writeList p 0 bytes)).pb k = bytes[k]) ∧
      ∀ a, bytes.length ≤ a → Cells.read (s.fed g (Cells.writeList p 0 bytes)).pb a = Cells.read p a := by
  refine ⟨fun k hk => ?_, fun a ha => Cells.read_writeList_other hp (.inr (by omega))⟩
  have hread := Cells.read_writeList hp 0 hk
  rwa [Nat.zero_add] at hread

/-! ## The SIRF machine, state by state (R90 to R95) -/

theorem gdFeed_sirf {st : SirfState} (hp : s.build.protocol = .sirf) (hst : SirfState.ofCode? g.state = some st)
    (b : Byte) : gdFeed b (s.fed g p) = sirfByte st b (s.fed g p) := by
  simp only [gdFeed, State.fed_build, hp, State.fed_gd, hst, inFramingState]

/-- The two length bytes of a SIRF frame, bit 15 not counted (R61, R92). -/
theorem sirf_declared_length {n top : Nat} (hn : n < 2 ^ 15) (htop : top = 0 ∨ top = 2 ^ 15) :
    (BitVec.ofNat 16 (2 ^ 8 * ((BitVec.ofNat 8 ((top + n) / 2 ^ 8)).toNat % 2 ^ 7))).toNat +
      (BitVec.ofNat 8 (top + n)).toNat = n := by
  simp only [BitVec.toNat_ofNat]
  omega

/-- The header of a SIRF frame that declares `n` bytes. -/
theorem feeds_sirf_header {n top : Nat} (hp : s.build.protocol = .sirf) (hstate : g.state = 0)
    (hmax : n ≤ s.build.maxPayload) (hn : n < 2 ^ 15) (htop : top = 0 ∨ top = 2 ^ 15) :
    s.Feeds ([0xA0, 0xA2] ++ bigEndian16 (top + n)) g
      { g with
        state := if n = 0 then SirfState.ck1.code else SirfState.payload.code, len := BitVec.ofNat 16 n, idx := 0 }
      p p := by
  refine .cons (g' := { g with state := SirfState.sync2.code }) (p' := p) ?sync1 <|
    .cons (g' := { g with state := SirfState.len1.code }) (p' := p) ?sync2 <|
    .cons (g' := { g with
      state := SirfState.len2.code,
      len := BitVec.ofNat 16 (2 ^ 8 * ((BitVec.ofNat 8 ((top + n) / 2 ^ 8)).toNat % 2 ^ 7)) }) (p' := p) ?len1 <|
    .cons ?len2 .nil
  case sync1 => rw [gdFeed_sirf hp (st := .sync1) (by rw [hstate]; rfl)]; rfl
  case sync2 => rw [gdFeed_sirf hp (st := .sync2) rfl]; rfl
  case len1 => rw [gdFeed_sirf hp (st := .len1) rfl]; rfl
  case len2 =>
    rw [gdFeed_sirf hp (st := .len2) rfl, sirfByte, State.fed_gd, sirf_declared_length hn htop, takeLength_fed hmax]

/-- Header and payload of a SIRF frame. -/
theorem feeds_sirf_payload {payload : List Byte} {top : Nat} (hp : s.build.protocol = .sirf) (hstate : g.state = 0)
    (hmax : payload.length ≤ s.build.maxPayload) (hn : payload.length < 2 ^ 15) (htop : top = 0 ∨ top = 2 ^ 15) :
    s.Feeds ([0xA0, 0xA2] ++ bigEndian16 (top + payload.length) ++ payload) g
      { g with
        state := SirfState.ck1.code, len := BitVec.ofNat 16 payload.length, idx := BitVec.ofNat 16 payload.length }
      p (Cells.writeList p 0 payload) :=
  (feeds_sirf_header hp hstate hmax hn htop).append <|
    feeds_whole_payload (fun _ _ _ hst => gdFeed_sirf hp (st := .payload) (by rw [hst]; rfl) _) hmax (by omega)

/-- The two checksum bytes of a SIRF frame: on to the trailer when they are the payload's, else one checksum error and
state 0 (R94). -/
theorem feeds_sirf_checksum {payload : List Byte} {hi lo : Byte} (hp : s.build.protocol = .sirf)
    (hwf : Memory.wf p = true) (hstate : g.state = SirfState.ck1.code) (hlen : g.len.toNat = payload.length)
    (hmax : payload.length ≤ s.build.maxPayload) :
    s.Feeds [hi, lo] g
      (if 2 ^ 8 * hi.toNat + lo.toNat = cksSirf payload then { g with state := SirfState.end1.code, rx := hi }
        else { g with state := SirfState.sync1.code, rx := hi, cksErr := g.cksErr + 1 })
      (Cells.writeList p 0 payload) (Cells.writeList p 0 payload) := by
  refine .cons (g' := { g with state := SirfState.ck2.code, rx := hi }) (p' := Cells.writeList p 0 payload) ?ck1 (.cons ?ck2 .nil)
  case ck1 => rw [gdFeed_sirf hp (st := .ck1) (by rw [hstate]; rfl)]; rfl
  case ck2 =>
    rw [gdFeed_sirf hp (st := .ck2) rfl]
    simp only [sirfByte, overPayload, State.fed_gd, State.fed_build, hlen, if_pos (Nat.le_succ_of_le hmax),
      State.pbBytes_fed hwf (Nat.le_refl _), List.take_length]
    split <;> rfl

theorem cksSirf_lt (payload : List Byte) : cksSirf payload < 2 ^ 15 := Nat.mod_lt _ (by decide)

/-- The two bytes of a 16-bit value put together again (R41). -/
theorem bigEndian16_value {v : Nat} (hv : v < 2 ^ 16) :
    2 ^ 8 * (BitVec.ofNat 8 (v / 2 ^ 8)).toNat + (BitVec.ofNat 8 v).toNat = v := by
  simp only [BitVec.toNat_ofNat]
  omega

/-- The last trailer byte of a SIRF frame dispatches (R95). -/
theorem gdFeed_sirf_end2 {n : Nat} (hp : s.build.protocol = .sirf) (hstate : g.state = SirfState.end2.code)
    (hlen : g.len.toNat = n) (hmax : n ≤ s.build.maxPayload) :
    gdFeed 0xB3 (s.fed g p) = .ok (dispatch n (s.fed { g with state := 0 } p)) := by
  rw [gdFeed_sirf hp (st := .end2) (by rw [hstate]; rfl), sirfByte, if_pos rfl, overPayload, State.fed_gd,
    State.fed_build, hlen, if_pos (Nat.le_succ_of_le hmax)]
  rfl

/-- A SIRF frame but for its last byte. -/
theorem feeds_sirf_frame {payload : List Byte} {top : Nat} (hp : s.build.protocol = .sirf) (hwf : Memory.wf p = true)
    (hstate : g.state = 0) (hmax : payload.length ≤ s.build.maxPayload) (hn : payload.length < 2 ^ 15)
    (htop : top = 0 ∨ top = 2 ^ 15) :
    s.Feeds ([0xA0, 0xA2] ++ bigEndian16 (top + payload.length) ++ payload ++ bigEndian16 (cksSirf payload) ++ [0xB0]) g
      { g with
        state := SirfState.end2.code, len := BitVec.ofNat 16 payload.length, idx := BitVec.ofNat 16 payload.length,
        rx := BitVec.ofNat 8 (cksSirf payload / 2 ^ 8) }
      p (Cells.writeList p 0 payload) := by
  have hcks := bigEndian16_value (v := cksSirf payload) (by have := cksSirf_lt payload; omega)
  have hchecked := (feeds_sirf_payload hp hstate hmax hn htop).append
    (feeds_sirf_checksum (hi := BitVec.ofNat 8 (cksSirf payload / 2 ^ 8)) (lo := BitVec.ofNat 8 (cksSirf payload))
      hp hwf rfl (Nat.mod_eq_of_lt (by omega)) hmax)
  rw [if_pos hcks] at hchecked
  exact hchecked.append (.cons (gdFeed_sirf hp (st := .end1) rfl _) .nil)

/-- Settles O52: all of the frame but its last byte dispatches nothing, and the last byte dispatches in the state that
the rest left, its framing state back at 0. -/
theorem sirfFrameIsDispatched : Obligations.SirfFrameIsDispatched := by
  intro s payload frame top hp _ hwf hstate hmax hn hframe
  obtain ⟨top, htop, rfl⟩ : ∃ top, (top = 0 ∨ top = 2 ^ 15) ∧ frame = [0xA0, 0xA2] ++
      bigEndian16 (top + payload.length) ++ payload ++ bigEndian16 (cksSirf payload) ++ [0xB0] ++ [0xB3] := by
    obtain rfl | ⟨htop, rfl⟩ := hframe
    · exact ⟨0, .inl rfl, by simp [sirfFrame]⟩
    · exact ⟨top, htop, by simp⟩
  have hfed := (feeds_sirf_frame hp hwf hstate hmax hn htop).feedAll_dispatch
    (gdFeed_sirf_end2 hp rfl (Nat.mod_eq_of_lt (by omega)) hmax)
  obtain ⟨hread, habove⟩ := read_fed_writeList hwf payload
  obtain ⟨htb, hhm, hcd, hsys, hcfg, hph, hevents, hosc, hhost⟩ := s.fed_keeps _ _
  obtain ⟨hgood, hzero, hcounters⟩ := dispatch_answer_counters rfl
  exact ⟨_, _, hfed, hread, habove, rfl, htb, hhm, hcd, hsys, hcfg, hph, hevents, hosc, hhost, rfl, hgood, hzero,
    hcounters⟩

end Sys2Proof.Machine

/-! SUPPORT. The UBX machine fed a frame (R65, R66, R102 to R107). -/

namespace Sys2Proof.Machine

variable {s : State} {g : GpsDecoder} {p : Memory}

theorem gdFeed_ubx {st : UbxState} (hp : s.build.protocol = .ubx) (hst : UbxState.ofCode? g.state = some st)
    (b : Byte) : gdFeed b (s.fed g p) = ubxByte st b (s.fed g p) := by
  simp only [gdFeed, State.fed_build, hp, State.fed_gd, hst, inFramingState]

/-- The two length bytes of a UBX frame (R65, R105). -/
theorem ubx_declared_length {n : Nat} (hn : n < 2 ^ 16) :
    (BitVec.ofNat 16 (BitVec.ofNat 8 n).toNat).toNat + 2 ^ 8 * (BitVec.ofNat 8 (n / 2 ^ 8)).toNat = n := by
  simp only [BitVec.toNat_ofNat]
  omega

/-- The header of a UBX frame that declares `n` bytes. -/
theorem feeds_ubx_header {n : Nat} (cls ident : Byte) (hp : s.build.protocol = .ubx) (hstate : g.state = 0)
    (hmax : n ≤ s.build.maxPayload) (hn : n < 2 ^ 16) :
    s.Feeds ([0xB5, 0x62, cls, ident] ++ littleEndian16 n) g
      { g with
        state := if n = 0 then UbxState.ckA.code else UbxState.payload.code, cls := cls, id := ident,
        len := BitVec.ofNat 16 n, idx := 0 }
      p p := by
  refine .cons (g' := { g with state := UbxState.sync2.code }) (p' := p) ?sync1 <|
    .cons (g' := { g with state := UbxState.cls.code }) (p' := p) ?sync2 <|
    .cons (g' := { g with state := UbxState.ident.code, cls := cls }) (p' := p) ?cls <|
    .cons (g' := { g with state := UbxState.len1.code, cls := cls, id := ident }) (p' := p) ?ident <|
    .cons (g' := { g with
      state := UbxState.len2.code, cls := cls, id := ident,
      len := BitVec.ofNat 16 (BitVec.ofNat 8 n).toNat }) (p' := p) ?len1 <|
    .cons ?len2 .nil
  case sync1 => rw [gdFeed_ubx hp (st := .sync1) (by rw [hstate]; rfl)]; rfl
  case sync2 => rw [gdFeed_ubx hp (st := .sync2) rfl]; rfl
  case cls => rw [gdFeed_ubx hp (st := .cls) rfl]; rfl
  case ident => rw [gdFeed_ubx hp (st := .ident) rfl]; rfl
  case len1 => rw [gdFeed_ubx hp (st := .len1) rfl]; rfl
  case len2 => rw [gdFeed_ubx hp (st := .len2) rfl, ubxByte, State.fed_gd, ubx_declared_length hn, takeLength_fed hmax]

/-- Header, payload and first checksum byte of a UBX frame, whatever the last two are (R103 to R107). -/
theorem feeds_ubx_frame {payload : List Byte} (cls ident ckA : Byte) (hp : s.build.protocol = .ubx)
    (hstate : g.state = 0) (hmax : payload.length ≤ s.build.maxPayload) (hn : payload.length < 2 ^ 16) :
    s.Feeds ([0xB5, 0x62, cls, ident] ++ littleEndian16 payload.length ++ payload ++ [ckA]) g
      { g with
        state := UbxState.ckB.code, cls := cls, id := ident, len := BitVec.ofNat 16 payload.length,
        idx := BitVec.ofNat 16 payload.length, rx := ckA }
      p (Cells.writeList p 0 payload) :=
  ((feeds_ubx_header cls ident hp hstate hmax hn).append <|
    feeds_whole_payload (g := { g with cls := cls, id := ident })
      (fun _ _ _ hst => gdFeed_ubx hp (st := .payload) (by rw [hst]; rfl) _) hmax hn).append <|
    .cons (gdFeed_ubx hp (st := .ckA) rfl _) .nil

/-- The second checksum byte of a UBX frame: a dispatch when the pair is that of the bytes covered, else one checksum
error (R107). -/
theorem gdFeed_ubx_ckB {payload : List Byte} (ckB : Byte) (hp : s.build.protocol = .ubx) (hwf : Memory.wf p = true)
    (hstate : g.state = UbxState.ckB.code) (hlen : g.len.toNat = payload.length)
    (hmax : payload.length ≤ s.build.maxPayload) :
    gdFeed ckB (s.fed g (Cells.writeList p 0 payload)) =
      if (g.rx, ckB) = fletcher (ubxCovered g.cls g.id payload) then
        .ok (dispatch payload.length (s.fed { g with state := 0 } (Cells.writeList p 0 payload)))
      else quiet (s.fed { g with state := 0, cksErr := g.cksErr + 1 } (Cells.writeList p 0 payload)) := by
  rw [gdFeed_ubx hp (st := .ckB) (by rw [hstate]; rfl)]
  simp only [ubxByte, overPayload, ubxFrameCks, State.fed_gd, State.fed_build, hlen, if_pos (Nat.le_succ_of_le hmax),
    State.pbBytes_fed hwf (Nat.le_refl _), List.take_length, Prod.ext_iff]
  rfl

/-- Settles O54: all of the frame but its last byte dispatches nothing, and the last byte completes the right checksum
pair. -/
theorem ubxFrameIsDispatched : Obligations.UbxFrameIsDispatched := by
  intro s cls ident payload hp hfits hwf hstate hmax
  have hlen : payload.length < 2 ^ 16 := by omega
  have hlast := gdFeed_ubx_ckB (s := s) (g := { s.gd with
      state := UbxState.ckB.code, cls := cls, id := ident, len := BitVec.ofNat 16 payload.length,
      idx := BitVec.ofNat 16 payload.length, rx := (fletcher (ubxCovered cls ident payload)).1 })
    (fletcher (ubxCovered cls ident payload)).2 hp hwf rfl (Nat.mod_eq_of_lt hlen) hmax
  rw [if_pos rfl] at hlast
  have hfed := (feeds_ubx_frame cls ident (fletcher (ubxCovered cls ident payload)).1 hp hstate hmax
    hlen).feedAll_dispatch hlast
  rw [List.append_assoc _ [_] [_]] at hfed
  obtain ⟨hread, habove⟩ := read_fed_writeList hwf payload
  obtain ⟨htb, hhm, hcd, hsys, hcfg, hph, hevents, hosc, hhost⟩ := s.fed_keeps _ _
  obtain ⟨hgood, hzero, hcounters⟩ := dispatch_answer_counters rfl
  exact ⟨_, _, hfed, hread, habove, rfl, htb, hhm, hcd, hsys, hcfg, hph, hevents, hosc, hhost, rfl, hgood, hzero,
    hcounters⟩

end Sys2Proof.Machine

/-! SUPPORT. The TSIP machine fed a packet (R63, R64, R97 to R101). -/

namespace Sys2Proof.Machine

variable {s : State} {g : GpsDecoder} {p : Memory}

theorem gdFeed_tsip {st : TsipState} (hp : s.build.protocol = .tsip) (hst : TsipState.ofCode? g.state = some st)
    (b : Byte) : gdFeed b (s.fed g p) = tsipByte st b (s.fed g p) := by
  simp only [gdFeed, State.fed_build, hp, State.fed_gd, hst, inFramingState]

/-- A byte within the capacity is stored (R99). -/
theorem tsipStore_fed {k : State → FeedResult} (b : Byte) (hovf : g.ovf = false)
    (hidx : g.idx.toNat < tsipCap s.build) : tsipStore b (s.fed g p) k =
      k (s.fed { g with idx := BitVec.ofNat 16 (g.idx.toNat + 1) } (Cells.write p g.idx.toNat b)) := by
  have hcap := tsipCap_le s.build
  rw [tsipStore, if_neg (by simp [hovf]), State.fed_gd, State.fed_build, if_neg (Nat.ne_of_lt hidx),
    atPbAddress, State.fed_build, if_pos (by omega), storeByte_fed]

/-- DLE and a packet id start a packet (R97, R98). -/
theorem feeds_tsip_start {ident : Byte} (hp : s.build.protocol = .tsip) (hstate : g.state = 0) (hdle : ident ≠ dle)
    (hetx : ident ≠ etx) :
    s.Feeds [dle, ident] g { g with state := TsipState.data.code, id := ident, idx := 0, ovf := false } p p := by
  refine .cons (g' := { g with state := TsipState.ident.code }) (p' := p) ?idle (.cons ?ident .nil)
  case idle => rw [gdFeed_tsip hp (st := .idle) (by rw [hstate]; rfl)]; rfl
  case ident => rw [gdFeed_tsip hp (st := .ident) rfl, tsipByte, if_neg (by simp [hdle, hetx])]; rfl

/-- One byte of a packet, sent twice when it is DLE, is stored once (R63, R99, R100). -/
theorem feeds_tsip_byte {b : Byte} {rest : List Byte} {g' : GpsDecoder} {p' : Memory} (hp : s.build.protocol = .tsip)
    (hstate : g.state = TsipState.data.code) (hovf : g.ovf = false) (hidx : g.idx.toNat < tsipCap s.build)
    (hrest : s.Feeds (stuffed rest) { g with idx := BitVec.ofNat 16 (g.idx.toNat + 1) } g'
      (Cells.write p g.idx.toNat b) p') : s.Feeds (stuffed (b :: rest)) g g' p p' := by
  have hdata : TsipState.ofCode? g.state = some .data := by rw [hstate]; rfl
  rw [stuffed]
  split
  · next hdle =>
    subst hdle
    refine .cons (g' := { g with state := TsipState.dataDle.code }) (p' := p) ?_ (.cons ?_ hrest)
    · rw [gdFeed_tsip hp hdata]; rfl
    · rw [gdFeed_tsip hp (st := .dataDle) rfl, tsipByte, if_pos rfl,
        tsipStore_fed (g := { g with state := TsipState.dataDle.code }) _ hovf hidx, State.setFraming_fed,
        ← hstate]
  · next hdle =>
    refine .cons ?_ hrest
    rw [gdFeed_tsip hp hdata, tsipByte, if_neg hdle, tsipStore_fed _ hovf hidx]

/-- The bytes of a packet that fits are stored from GD.idx up, unstuffed. -/
theorem feeds_tsip_body {body : List Byte} (hp : s.build.protocol = .tsip) (hmax : s.build.maxPayload < 2 ^ 16 - 1)
    (hstate : g.state = TsipState.data.code) (hovf : g.ovf = false)
    (hfits : g.idx.toNat + body.length ≤ tsipCap s.build) :
    s.Feeds (stuffed body) g { g with idx := BitVec.ofNat 16 (g.idx.toNat + body.length) } p
      (Cells.writeList p g.idx.toNat body) := by
  have hcap := tsipCap_le s.build
  induction body generalizing g p with
  | nil =>
    rw [List.length_nil, Nat.add_zero, BitVec.ofNat_toNat, BitVec.setWidth_eq]
    exact .nil
  | cons b rest ih =>
    rw [List.length_cons] at hfits
    have hidx : (BitVec.ofNat 16 (g.idx.toNat + 1)).toNat = g.idx.toNat + 1 := Nat.mod_eq_of_lt (by omega)
    have hrest := ih (g := { g with idx := BitVec.ofNat 16 (g.idx.toNat + 1) }) (p := Cells.write p g.idx.toNat b)
      hstate hovf (by change (BitVec.ofNat 16 _).toNat + _ ≤ _; rw [hidx]; omega)
    simp only [hidx] at hrest
    rw [List.length_cons, show g.idx.toNat + (rest.length + 1) = g.idx.toNat + 1 + rest.length by omega]
    exact feeds_tsip_byte hp hstate hovf (by omega) hrest

/-- A packet that fits, but for its last byte (R97 to R100). -/
theorem feeds_tsip_frame {ident : Byte} {body : List Byte} (hp : s.build.protocol = .tsip)
    (hmax : s.build.maxPayload < 2 ^ 16 - 1) (hstate : g.state = 0) (hdle : ident ≠ dle) (hetx : ident ≠ etx)
    (hfits : body.length ≤ tsipCap s.build) :
    s.Feeds ([dle, ident] ++ stuffed body ++ [dle]) g
      { g with
        state := TsipState.dataDle.code, id := ident, idx := BitVec.ofNat 16 body.length, ovf := false }
      p (Cells.writeList p 0 body) := by
  have hbody := feeds_tsip_body (g := { g with state := TsipState.data.code, id := ident, idx := 0, ovf := false })
    (p := p) (body := body) hp hmax rfl rfl ((Nat.zero_add _).trans_le hfits)
  rw [show BitVec.toNat (0 : Half) = 0 from rfl, Nat.zero_add] at hbody
  exact ((feeds_tsip_start hp hstate hdle hetx).append hbody).append
    (.cons (gdFeed_tsip hp (st := .data) rfl _) .nil)

/-- ETX after DLE ends a packet, in state 0 (R100, R101). -/
theorem gdFeed_tsip_etx (hp : s.build.protocol = .tsip) (hstate : g.state = TsipState.dataDle.code) :
    gdFeed etx (s.fed g p) = tsipEnd (s.fed { g with state := 0 } p) := by
  rw [gdFeed_tsip hp (st := .dataDle) (by rw [hstate]; rfl), tsipByte, if_neg (by decide), if_pos rfl]
  rfl

/-- With ADD8 the last byte stored is the checksum: a dispatch of the data before it when it is right, else one checksum
error (R64, R101). -/
theorem tsipEnd_add8 {data : List Byte} {c : Byte} (hcks : s.build.tsipChecksum = .add8) (hwf : Memory.wf p = true)
    (hovf : g.ovf = false) (hidx : g.idx.toNat = data.length + 1) (hmax : data.length ≤ s.build.maxPayload) :
    tsipEnd (s.fed g (Cells.writeList p 0 (data ++ [c]))) =
      if c = cksTsip g.id data then
        .ok (dispatch data.length (s.fed g (Cells.writeList p 0 (data ++ [c]))))
      else quiet (s.fed { g with cksErr := g.cksErr + 1 } (Cells.writeList p 0 (data ++ [c]))) := by
  have hlast : Cells.read (Cells.writeList p 0 (data ++ [c])) data.length = c := by
    have hread := Cells.read_writeList hwf 0 (vs := data ++ [c]) (k := data.length) (by simp)
    rwa [Nat.zero_add, List.getElem_concat_length rfl] at hread
  rw [tsipEnd, if_neg (by simp [hovf])]
  simp only [State.fed_gd, State.fed_build, hcks, hidx, Nat.add_one_ne_zero, if_false, Nat.add_one_sub_one,
    atPbAddress, if_pos hmax, State.fed_pb, hlast,
    State.pbBytes_fed hwf (bytes := data ++ [c]) (n := data.length) (by simp), List.take_left']
  rfl

/-- With no checksum every packet that ends is dispatched (R64, R101). -/
theorem tsipEnd_none {n : Nat} (hcks : s.build.tsipChecksum = .none) (hovf : g.ovf = false)
    (hidx : g.idx.toNat = n) (hmax : n ≤ s.build.maxPayload) :
    tsipEnd (s.fed g p) = .ok (dispatch n (s.fed g p)) := by
  rw [tsipEnd, if_neg (by simp [hovf])]
  simp only [State.fed_gd, State.fed_build, hcks, hidx, overPayload, if_pos (Nat.le_succ_of_le hmax)]

/-- ETX at the end of a packet's body dispatches the data, with either checksum setting (R101). -/
theorem tsipEnd_body {data : List Byte} (hmax : data.length ≤ s.build.maxPayload) (hfits : s.build.maxPayload < 2 ^ 16 - 1)
    (hwf : Memory.wf p = true) (hovf : g.ovf = false)
    (hidx : g.idx = BitVec.ofNat 16 (tsipBody s.build.tsipChecksum g.id data).length) :
    tsipEnd (s.fed g (Cells.writeList p 0 (tsipBody s.build.tsipChecksum g.id data))) =
      .ok (dispatch data.length (s.fed g (Cells.writeList p 0 (tsipBody s.build.tsipChecksum g.id data)))) := by
  cases hcks : s.build.tsipChecksum with
  | add8 =>
    rw [hcks] at hidx
    have hlen : g.idx.toNat = data.length + 1 := by
      rw [hidx, tsipBody, List.length_append, List.length_singleton]
      exact Nat.mod_eq_of_lt (by omega)
    rw [tsipBody, tsipEnd_add8 hcks hwf hovf hlen hmax, if_pos rfl]
  | none =>
    rw [hcks] at hidx
    exact tsipEnd_none hcks hovf (by rw [hidx]; exact Nat.mod_eq_of_lt (show data.length < _ by omega)) hmax

theorem length_tsipBody_le {b : Build} {ident : Byte} {data : List Byte} (hmax : data.length ≤ b.maxPayload) :
    data.length ≤ (tsipBody b.tsipChecksum ident data).length ∧
      (tsipBody b.tsipChecksum ident data).length ≤ tsipCap b := by
  unfold tsipBody tsipCap
  cases b.tsipChecksum <;> simp [hmax]

/-- The data are the first bytes of a packet's body. -/
theorem getElem_tsipBody {cks : TsipChecksum} {ident : Byte} {data : List Byte} {k : Nat} (hk : k < data.length)
    (hk' : k < (tsipBody cks ident data).length) : (tsipBody cks ident data)[k] = data[k] := by
  cases cks with
  | add8 => exact List.getElem_append_left hk
  | none => rfl

/-- Settles O53: all of the packet but its last byte dispatches nothing, and ETX dispatches in the state that the rest
left, its framing state back at 0. -/
theorem tsipFrameIsDispatched : Obligations.TsipFrameIsDispatched := by
  intro s ident data hp hfits hwf hstate hmax hdle hetx
  obtain ⟨hdata, hbody⟩ := length_tsipBody_le (ident := ident) hmax
  have hlast := gdFeed_tsip_etx (s := s) (g := { s.gd with
      state := TsipState.dataDle.code, id := ident, ovf := false,
      idx := BitVec.ofNat 16 (tsipBody s.build.tsipChecksum ident data).length })
    (p := Cells.writeList s.pb 0 (tsipBody s.build.tsipChecksum ident data)) hp rfl
  rw [tsipEnd_body (g := { s.gd with
      state := 0, id := ident, ovf := false,
      idx := BitVec.ofNat 16 (tsipBody s.build.tsipChecksum ident data).length }) hmax hfits hwf rfl rfl] at hlast
  have hfed := (feeds_tsip_frame hp hfits hstate hdle hetx hbody).feedAll_dispatch hlast
  rw [List.append_assoc _ [_] [_]] at hfed
  obtain ⟨hread, habove⟩ := read_fed_writeList hwf (tsipBody s.build.tsipChecksum ident data)
  obtain ⟨htb, hhm, hcd, hsys, hcfg, hph, hevents, hosc, hhost⟩ := s.fed_keeps _ _
  obtain ⟨hgood, hzero, hcounters⟩ := dispatch_answer_counters rfl
  exact ⟨_, _, hfed, fun k hk => (hread k (by omega)).trans (getElem_tsipBody hk _), habove, rfl, htb, hhm, hcd, hsys,
    hcfg, hph, hevents, hosc, hhost, rfl, hgood, hzero, hcounters⟩

end Sys2Proof.Machine

/-! SUPPORT. Corrupted frames and bytes that no frame takes (R109 (b) and (c)): a replaced byte changes each checksum
(R62, R64, R66), a wrong checksum is one error and no dispatch, and an unexpected byte is counted (R90, R91, R95, R97,
R98, R100, R102, R103). -/

namespace Sys2Proof.Machine

variable {s : State} {g : GpsDecoder} {p : Memory}

/-! ## A replaced byte changes the checksum -/

/-- The sum of a list of bytes, which every checksum takes modulo a power of two. -/
def byteSum (bytes : List Byte) : Nat := (bytes.map BitVec.toNat).sum

@[simp] theorem byteSum_cons (b : Byte) (bytes : List Byte) : byteSum (b :: bytes) = b.toNat + byteSum bytes := rfl

theorem cksSirf_eq_byteSum (payload : List Byte) : cksSirf payload = byteSum payload % 2 ^ 15 := rfl

theorem cksTsip_toNat (ident : Byte) (data : List Byte) :
    (cksTsip ident data).toNat = (ident.toNat + byteSum data) % 2 ^ 8 := by
  unfold cksTsip
  induction data generalizing ident with
  | nil => exact (Nat.mod_eq_of_lt ident.isLt).symm
  | cons d data ih =>
    rw [List.foldl_cons, ih, byteSum_cons, BitVec.toNat_add]
    omega

theorem fletcher_fst_toNat (bytes : List Byte) : (fletcher bytes).1.toNat = byteSum bytes % 2 ^ 8 := by
  suffices hacc : ∀ acc : Byte × Byte,
      (bytes.foldl (fun acc c => (acc.1 + c, acc.2 + (acc.1 + c))) acc).1.toNat =
        (acc.1.toNat + byteSum bytes) % 2 ^ 8 from
    (hacc (0, 0)).trans (by rw [show BitVec.toNat ((0, 0) : Byte × Byte).1 = 0 from rfl, Nat.zero_add])
  induction bytes with
  | nil => exact fun acc => (Nat.mod_eq_of_lt acc.1.isLt).symm
  | cons c bytes ih =>
    intro acc
    rw [List.foldl_cons, ih, byteSum_cons, BitVec.toNat_add]
    omega

theorem byteSum_set {bytes : List Byte} {k : Nat} (hk : k < bytes.length) (b : Byte) :
    byteSum (bytes.set k b) + bytes[k].toNat = byteSum bytes + b.toNat := by
  induction bytes generalizing k with
  | nil => cases hk
  | cons c bytes ih =>
    cases k with
    | zero => simp only [List.set_cons_zero, byteSum_cons, List.getElem_cons_zero]; omega
    | succ k =>
      have := ih (Nat.lt_of_succ_lt_succ hk)
      simp only [List.set_cons_succ, byteSum_cons, List.getElem_cons_succ]
      omega

/-- One byte replaced by another value changes the sum modulo 2^8, and so modulo every larger power of two. -/
theorem byteSum_set_mod_ne {bytes : List Byte} {k : Nat} {b : Byte} (hk : k < bytes.length)
    (hne : bytes[k]? ≠ some b) : byteSum (bytes.set k b) % 2 ^ 8 ≠ byteSum bytes % 2 ^ 8 := by
  have hset := byteSum_set hk b
  have hbyte : bytes[k].toNat ≠ b.toNat := fun h => hne (by rw [List.getElem?_eq_getElem hk, BitVec.eq_of_toNat_eq h])
  have := bytes[k].isLt
  have := b.isLt
  omega

/-! ## What a run that dispatches nothing answers -/

/-- A byte that is counted and stored nowhere. -/
theorem exec_gpsFeed_counts {b : Byte} {gd : GpsDecoder}
    (h : gdFeed b (s.fed s.gd s.pb) = quiet (s.fed gd s.pb)) :
    ∃ t, exec (.gpsFeed b.toNat) s = .next t ∧ t.resp = ⟨.ok, 0, 0⟩ ∧ t.events = [] ∧ t.gd = gd ∧
      t.tb = s.tb ∧ t.hm = s.hm ∧ t.cd = s.cd ∧ t.sys = s.sys ∧ t.cfg = s.cfg ∧ s.KeepsStores t ∧ s.KeepsHost t :=
  ⟨_, exec_gpsFeed_of_quiet h, rfl, rfl, rfl, rfl, rfl, rfl, rfl, rfl, s.fed_keepsStores gd, rfl, rfl, rfl, rfl⟩

theorem word_add_zero (c : Word) : c + 0 = c := BitVec.add_zero c

theorem GpsDecoder.withState_self {c : Byte} (h : g.state = c) : { g with state := c } = g := by
  subst h; rfl

/-! ## SIRF -/

/-- A byte taken in state 0: 0xA0 starts a frame, any other is garbage (R89, R90). -/
theorem sirfReprocess_fed (b : Byte) : sirfReprocess b (s.fed g p) =
    s.fed { g with
      state := if b = 0xA0 then 1 else 0, garbage := g.garbage + (if b = 0xA0 then 0 else 1) } p := by
  unfold sirfReprocess sirfSync1
  split
  · rw [word_add_zero]; rfl
  · rfl

theorem gdFeed_sirf_sync1 (hp : s.build.protocol = .sirf) (hstate : g.state = 0) (b : Byte) :
    gdFeed b (s.fed g p) = quiet (sirfReprocess b (s.fed g p)) := by
  rw [gdFeed_sirf hp (st := .sync1) (by rw [hstate]; rfl), sirfByte, sirfReprocess, State.setFraming_fed,
    GpsDecoder.withState_self (c := SirfState.sync1.code) hstate]

/-- A SIRF byte that no frame takes (R90, R91, R95). -/
theorem gdFeed_sirf_unframed {b : Byte} {g' f : Word} (hp : s.build.protocol = .sirf)
    (h : (g.state = 0 ∧ g' = 0 ∧ f = 0) ∨ (g.state = 1 ∧ b ≠ 0xA2 ∧ g' = 1 ∧ f = 0) ∨
      (g.state = 7 ∧ b ≠ 0xB0 ∧ g' = 0 ∧ f = 1) ∨ (g.state = 8 ∧ b ≠ 0xB3 ∧ g' = 0 ∧ f = 1)) :
    gdFeed b (s.fed g p) = quiet (s.fed { g with
      state := if b = 0xA0 then 1 else 0, garbage := g.garbage + g' + (if b = 0xA0 then 0 else 1),
      framingErr := g.framingErr + f } p) := by
  obtain ⟨hstate, rfl, rfl⟩ | ⟨hstate, hb, rfl, rfl⟩ | ⟨hstate, hb, rfl, rfl⟩ | ⟨hstate, hb, rfl, rfl⟩ := h
  · rw [gdFeed_sirf_sync1 hp hstate, sirfReprocess_fed, word_add_zero, word_add_zero]
  · rw [gdFeed_sirf hp (st := .sync2) (by rw [hstate]; rfl), sirfByte, if_neg hb, countGarbage_fed, sirfReprocess_fed,
      word_add_zero]
    rfl
  · rw [gdFeed_sirf hp (st := .end1) (by rw [hstate]; rfl), sirfByte, if_neg hb, countFramingErr_fed,
      sirfReprocess_fed, word_add_zero]
    rfl
  · rw [gdFeed_sirf hp (st := .end2) (by rw [hstate]; rfl), sirfByte, if_neg hb, countFramingErr_fed,
      sirfReprocess_fed, word_add_zero]
    rfl

/-- The trailer of a SIRF frame that was given up is two bytes of garbage (R90). -/
theorem feeds_sirf_orphan_trailer (hp : s.build.protocol = .sirf) (hstate : g.state = 0) :
    s.Feeds [0xB0, 0xB3] g { g with garbage := g.garbage + 2 } p p := by
  have hgarbage (g : GpsDecoder) (b : Byte) (hstate : g.state = 0) (hb : b ≠ 0xA0) :
      gdFeed b (s.fed g p) = quiet (s.fed { g with garbage := g.garbage + 1 } p) := by
    rw [gdFeed_sirf_sync1 hp hstate, sirfReprocess_fed, if_neg hb, if_neg hb, ← hstate]
  have htwo : g.garbage + 2 = g.garbage + 1 + 1 := (BitVec.add_assoc g.garbage 1 1).symm
  rw [htwo]
  exact .cons (hgarbage g 0xB0 hstate (by decide)) (.cons (hgarbage _ 0xB3 hstate (by decide)) .nil)

/-- A SIRF frame with a wrong checksum: one checksum error, and the trailer is garbage (R90, R94). -/
theorem feeds_sirf_wrong_checksum {sent : List Byte} {hi lo : Byte} (hp : s.build.protocol = .sirf)
    (hwf : Memory.wf p = true) (hstate : g.state = 0) (hmax : sent.length ≤ s.build.maxPayload)
    (hn : sent.length < 2 ^ 15) (hwrong : 2 ^ 8 * hi.toNat + lo.toNat ≠ cksSirf sent) :
    s.Feeds ([0xA0, 0xA2] ++ bigEndian16 sent.length ++ sent ++ [hi, lo] ++ [0xB0, 0xB3]) g
      { g with
        state := 0, len := BitVec.ofNat 16 sent.length, idx := BitVec.ofNat 16 sent.length, rx := hi,
        cksErr := g.cksErr + 1, garbage := g.garbage + 2 }
      p (Cells.writeList p 0 sent) := by
  have hpayload := feeds_sirf_payload (p := p) hp hstate hmax hn (.inl rfl)
  rw [Nat.zero_add] at hpayload
  have hchecked := hpayload.append
    (feeds_sirf_checksum (hi := hi) (lo := lo) hp hwf rfl (Nat.mod_eq_of_lt (by omega)) hmax)
  rw [if_neg hwrong] at hchecked
  exact hchecked.append (feeds_sirf_orphan_trailer hp rfl)

/-- A replaced payload or checksum byte makes the checksum wrong (R62). -/
theorem sirf_corruption {payload sent cks : List Byte} {k : Nat} {b : Byte}
    (h : (k < payload.length ∧ payload[k]? ≠ some b ∧ sent = payload.set k b ∧ cks = bigEndian16 (cksSirf payload)) ∨
      (k < 2 ∧ (bigEndian16 (cksSirf payload))[k]? ≠ some b ∧ sent = payload ∧
        cks = (bigEndian16 (cksSirf payload)).set k b)) :
    sent.length = payload.length ∧ ∃ hi lo, cks = [hi, lo] ∧ 2 ^ 8 * hi.toNat + lo.toNat ≠ cksSirf sent := by
  have hvalue := bigEndian16_value (v := cksSirf payload) (by have := cksSirf_lt payload; omega)
  obtain ⟨hk, hne, rfl, rfl⟩ | ⟨hk, hne, rfl, rfl⟩ := h
  · refine ⟨List.length_set, _, _, rfl, ?_⟩
    have hsum := byteSum_set_mod_ne hk hne
    rw [hvalue, cksSirf_eq_byteSum, cksSirf_eq_byteSum]
    omega
  · refine ⟨rfl, ?_⟩
    match k, hk with
    | 0, _ =>
      refine ⟨_, _, rfl, fun heq => hne ?_⟩
      exact congrArg some (BitVec.eq_of_toNat_eq (by omega))
    | 1, _ =>
      refine ⟨_, _, rfl, fun heq => hne ?_⟩
      exact congrArg some (BitVec.eq_of_toNat_eq (by omega))

/-- Settles O55: an unexpected byte is taken again in state 0, and a frame with one payload or checksum byte replaced is
a frame with a wrong checksum. -/
theorem corruptedSirfFrameIsCounted : Obligations.CorruptedSirfFrameIsCounted := by
  refine ⟨fun s b g f hp h => exec_gpsFeed_counts (gdFeed_sirf_unframed hp h), ?_⟩
  intro s payload sent cks k b hp _ hwf hstate hmax hn h
  obtain ⟨hlen, hi, lo, rfl, hwrong⟩ := sirf_corruption h
  rw [← hlen] at hmax hn ⊢
  have hfed := (feeds_sirf_wrong_checksum hp hwf hstate hmax hn hwrong).feedAll_eq (by simp)
  obtain ⟨htb, hhm, hcd, hsys, hcfg, hph, hevents, -, hhost⟩ := s.fed_keeps _ _
  exact ⟨_, hfed, rfl, htb, hhm, hcd, hsys, hcfg, hph, hevents, (read_fed_writeList hwf sent).2, hhost⟩

end Sys2Proof.Machine

/-! SUPPORT. Corrupted UBX frames and TSIP packets, and the bytes that neither machine takes (R97, R98, R100 to R103,
R107, R109). -/

namespace Sys2Proof.Machine

variable {s : State} {g : GpsDecoder} {p : Memory}

/-! ## UBX -/

/-- A byte taken in state 0: 0xB5 starts a frame, any other is garbage (R89, R102). -/
theorem ubxReprocess_fed (b : Byte) : ubxReprocess b (s.fed g p) =
    s.fed { g with
      state := if b = 0xB5 then 1 else 0, garbage := g.garbage + (if b = 0xB5 then 0 else 1) } p := by
  unfold ubxReprocess ubxSync1
  split
  · rw [word_add_zero]; rfl
  · rfl

/-- A UBX byte that no frame takes (R102, R103). -/
theorem gdFeed_ubx_unframed {b : Byte} {g' : Word} (hp : s.build.protocol = .ubx)
    (h : (g.state = 0 ∧ g' = 0) ∨ (g.state = 1 ∧ b ≠ 0x62 ∧ g' = 1)) :
    gdFeed b (s.fed g p) = quiet (s.fed { g with
      state := if b = 0xB5 then 1 else 0, garbage := g.garbage + g' + (if b = 0xB5 then 0 else 1) } p) := by
  obtain ⟨hstate, rfl⟩ | ⟨hstate, hb, rfl⟩ := h
  · rw [word_add_zero, ← ubxReprocess_fed, gdFeed_ubx hp (st := .sync1) (by rw [hstate]; rfl), ubxByte, ubxReprocess,
      State.setFraming_fed, GpsDecoder.withState_self (c := UbxState.sync1.code) hstate]
  · rw [gdFeed_ubx hp (st := .sync2) (by rw [hstate]; rfl), ubxByte, if_neg hb, countGarbage_fed, ubxReprocess_fed]
    rfl

/-- A UBX frame with a wrong checksum pair: one checksum error (R107). -/
theorem feeds_ubx_wrong_checksum {cls ident ckA ckB : Byte} {sent : List Byte} (hp : s.build.protocol = .ubx)
    (hwf : Memory.wf p = true) (hstate : g.state = 0) (hmax : sent.length ≤ s.build.maxPayload)
    (hn : sent.length < 2 ^ 16) (hwrong : (ckA, ckB) ≠ fletcher (ubxCovered cls ident sent)) :
    s.Feeds ([0xB5, 0x62, cls, ident] ++ littleEndian16 sent.length ++ sent ++ [ckA, ckB]) g
      { g with
        state := 0, cls := cls, id := ident, len := BitVec.ofNat 16 sent.length, idx := BitVec.ofNat 16 sent.length,
        rx := ckA, cksErr := g.cksErr + 1 }
      p (Cells.writeList p 0 sent) := by
  have hlast := gdFeed_ubx_ckB (s := s) (g := { g with
      state := UbxState.ckB.code, cls := cls, id := ident, len := BitVec.ofNat 16 sent.length,
      idx := BitVec.ofNat 16 sent.length, rx := ckA }) ckB hp hwf rfl (Nat.mod_eq_of_lt hn) hmax
  rw [if_neg hwrong] at hlast
  have hfeeds := (feeds_ubx_frame cls ident ckA hp hstate hmax hn).append (.cons hlast .nil)
  rwa [List.append_assoc _ [_] [_]] at hfeeds

theorem byteSum_ubxCovered (cls ident : Byte) (payload : List Byte) : byteSum (ubxCovered cls ident payload) =
    cls.toNat + (ident.toNat + ((BitVec.ofNat 8 payload.length).toNat +
      ((BitVec.ofNat 8 (payload.length / 2 ^ 8)).toNat + byteSum payload))) := rfl

/-- Frames of one length with different sums have different checksum pairs (R66). -/
theorem fletcher_ne_of_byteSum {l l' : List Byte} (h : byteSum l % 2 ^ 8 ≠ byteSum l' % 2 ^ 8) :
    fletcher l ≠ fletcher l' := by
  intro heq
  have := congrArg (fun c => c.1.toNat) heq
  simp only [fletcher_fst_toNat] at this
  exact h this

/-- A replaced class, id, payload byte or checksum pair makes the checksum wrong (R66). -/
theorem ubx_corruption {cls ident cls' ident' ckA ckB b : Byte} {payload sent : List Byte} {k : Nat}
    (h : (cls' ≠ cls ∧ ident' = ident ∧ sent = payload ∧ (ckA, ckB) = fletcher (ubxCovered cls ident payload)) ∨
      (cls' = cls ∧ ident' ≠ ident ∧ sent = payload ∧ (ckA, ckB) = fletcher (ubxCovered cls ident payload)) ∨
      (cls' = cls ∧ ident' = ident ∧ k < payload.length ∧ payload[k]? ≠ some b ∧ sent = payload.set k b ∧
        (ckA, ckB) = fletcher (ubxCovered cls ident payload)) ∨
      (cls' = cls ∧ ident' = ident ∧ sent = payload ∧ (ckA, ckB) ≠ fletcher (ubxCovered cls ident payload))) :
    sent.length = payload.length ∧ (ckA, ckB) ≠ fletcher (ubxCovered cls' ident' sent) := by
  have hlt (x : Byte) := x.isLt
  obtain ⟨hcls, rfl, rfl, hcks⟩ | ⟨rfl, hident, rfl, hcks⟩ | ⟨rfl, rfl, hk, hne, rfl, hcks⟩ | ⟨rfl, rfl, rfl, hcks⟩ := h
  · have := hlt cls
    have := hlt cls'
    have hcls := mt BitVec.eq_of_toNat_eq hcls
    refine ⟨rfl, hcks ▸ fletcher_ne_of_byteSum ?_⟩
    rw [byteSum_ubxCovered, byteSum_ubxCovered]
    omega
  · have := hlt ident
    have := hlt ident'
    have hident := mt BitVec.eq_of_toNat_eq hident
    refine ⟨rfl, hcks ▸ fletcher_ne_of_byteSum ?_⟩
    rw [byteSum_ubxCovered, byteSum_ubxCovered]
    omega
  · have hsum := byteSum_set_mod_ne hk hne
    refine ⟨List.length_set, hcks ▸ fletcher_ne_of_byteSum ?_⟩
    rw [byteSum_ubxCovered, byteSum_ubxCovered, List.length_set]
    omega
  · exact ⟨rfl, hcks⟩

/-! ## TSIP -/

/-- A TSIP byte that no packet takes (R97, R98, R100). -/
theorem gdFeed_tsip_unframed {b : Byte} {g' : GpsDecoder} (hp : s.build.protocol = .tsip)
    (h : (g.state = 0 ∧ b ≠ dle ∧ g' = { g with garbage := g.garbage + 1 }) ∨
      (g.state = 1 ∧ (b = dle ∨ b = etx) ∧ g' = { g with state := 0, garbage := g.garbage + 2 }) ∨
      (g.state = 3 ∧ b ≠ dle ∧ b ≠ etx ∧
        g' = { g with state := 2, id := b, idx := 0, ovf := false, framingErr := g.framingErr + 1 })) :
    gdFeed b (s.fed g p) = quiet (s.fed g' p) := by
  obtain ⟨hstate, hb, rfl⟩ | ⟨hstate, hb, rfl⟩ | ⟨hstate, hdle, hetx, rfl⟩ := h
  · rw [gdFeed_tsip hp (st := .idle) (by rw [hstate]; rfl), tsipByte, if_neg hb]
    rfl
  · rw [gdFeed_tsip hp (st := .ident) (by rw [hstate]; rfl), tsipByte, if_pos hb]
    rfl
  · rw [gdFeed_tsip hp (st := .dataDle) (by rw [hstate]; rfl), tsipByte, if_neg hdle, if_neg hetx]
    rfl

/-- A packet with ADD8 and no byte between its id and DLE ETX: one checksum error (R101). -/
theorem feeds_tsip_empty {ident : Byte} (hp : s.build.protocol = .tsip) (hcks : s.build.tsipChecksum = .add8)
    (hstate : g.state = 0) (hdle : ident ≠ dle) (hetx : ident ≠ etx) :
    s.Feeds ([dle, ident] ++ [dle, etx]) g
      { g with state := 0, id := ident, idx := 0, ovf := false, cksErr := g.cksErr + 1 } p p := by
  refine (feeds_tsip_start hp hstate hdle hetx).append <|
    .cons (g' := { g with state := TsipState.dataDle.code, id := ident, idx := 0, ovf := false }) (p' := p)
      (gdFeed_tsip hp (st := .data) rfl _) (.cons ?_ .nil)
  rw [gdFeed_tsip_etx hp rfl]
  simp only [tsipEnd, State.fed_gd, State.fed_build, hcks]
  rfl

/-- A packet with ADD8 whose last byte is not its checksum: one checksum error (R101). -/
theorem feeds_tsip_wrong_checksum {ident c : Byte} {data : List Byte} (hp : s.build.protocol = .tsip)
    (hcks : s.build.tsipChecksum = .add8) (hfits : s.build.maxPayload < 2 ^ 16 - 1) (hwf : Memory.wf p = true)
    (hstate : g.state = 0) (hmax : data.length ≤ s.build.maxPayload) (hdle : ident ≠ dle) (hetx : ident ≠ etx)
    (hwrong : c ≠ cksTsip ident data) :
    s.Feeds ([dle, ident] ++ stuffed (data ++ [c]) ++ [dle, etx]) g
      { g with
        state := 0, id := ident, idx := BitVec.ofNat 16 (data.length + 1), ovf := false, cksErr := g.cksErr + 1 }
      p (Cells.writeList p 0 (data ++ [c])) := by
  have hcap : (data ++ [c]).length ≤ tsipCap s.build := by
    rw [tsipCap, hcks, List.length_append]
    exact Nat.succ_le_succ hmax
  have hframe := feeds_tsip_frame (p := p) hp hfits hstate hdle hetx hcap
  rw [List.length_append, List.length_singleton] at hframe
  have hlast := gdFeed_tsip_etx (s := s) (p := Cells.writeList p 0 (data ++ [c])) (g := { g with
      state := TsipState.dataDle.code, id := ident, idx := BitVec.ofNat 16 (data.length + 1), ovf := false }) hp rfl
  rw [tsipEnd_add8 hcks hwf rfl (Nat.mod_eq_of_lt (by omega)) hmax, if_neg hwrong] at hlast
  have hfeeds := hframe.append (.cons hlast .nil)
  rwa [List.append_assoc _ [_] [_]] at hfeeds

/-- A replaced id, data or checksum byte makes the checksum wrong (R64). -/
theorem tsip_corruption {ident ident' b : Byte} {data sent : List Byte} {k : Nat}
    (h : (ident' ≠ ident ∧ sent = data ++ [cksTsip ident data]) ∨
      (ident' = ident ∧ k < data.length + 1 ∧ (data ++ [cksTsip ident data])[k]? ≠ some b ∧
        sent = (data ++ [cksTsip ident data]).set k b)) :
    ∃ data' c, sent = data' ++ [c] ∧ data'.length = data.length ∧ c ≠ cksTsip ident' data' := by
  have hne_of_toNat {x y : Byte} (hxy : x.toNat ≠ y.toNat) : x ≠ y := fun h => hxy (congrArg BitVec.toNat h)
  obtain ⟨hident, rfl⟩ | ⟨rfl, hk, hne, rfl⟩ := h
  · refine ⟨data, _, rfl, rfl, hne_of_toNat ?_⟩
    have := mt BitVec.eq_of_toNat_eq hident
    have := ident.isLt
    have := ident'.isLt
    rw [cksTsip_toNat, cksTsip_toNat]
    omega
  · by_cases hdata : k < data.length
    · refine ⟨data.set k b, _, List.set_append_left _ _ hdata, List.length_set, hne_of_toNat ?_⟩
      rw [List.getElem?_append_left hdata] at hne
      have hsum := byteSum_set_mod_ne hdata hne
      rw [cksTsip_toNat, cksTsip_toNat]
      omega
    · obtain rfl : k = data.length := by omega
      refine ⟨data, b, by simp, rfl, fun heq => hne ?_⟩
      rw [List.getElem?_concat_length, heq]

/-- Settles O56, clause by clause: the unexpected bytes of each machine, and the frames whose checksum the replaced byte
makes wrong. -/
theorem corruptedUbxAndTsipFramesAreCounted : Obligations.CorruptedUbxAndTsipFramesAreCounted := by
  refine ⟨fun s b g hp h => exec_gpsFeed_counts (gdFeed_ubx_unframed hp h),
    fun s b gd hp h => exec_gpsFeed_counts (gdFeed_tsip_unframed hp h), ?ubx, ?empty, ?tsip⟩
  case ubx =>
    intro s cls ident payload sent cls' ident' ckA ckB k b hp hfits hwf hstate hmax h
    obtain ⟨hlen, hwrong⟩ := ubx_corruption h
    rw [← hlen] at hmax ⊢
    have hfed := (feeds_ubx_wrong_checksum hp hwf hstate hmax (by omega) hwrong).feedAll_eq (by simp)
    obtain ⟨htb, hhm, hcd, hsys, hcfg, hph, hevents, -, hhost⟩ := s.fed_keeps _ _
    exact ⟨_, hfed, rfl, htb, hhm, hcd, hsys, hcfg, hph, hevents, (read_fed_writeList hwf sent).2, hhost⟩
  case empty =>
    intro s ident hp hcks hstate hdle hetx
    have hfed := (feeds_tsip_empty hp hcks hstate hdle hetx).feedAll_eq (by simp)
    obtain ⟨htb, hhm, hcd, hsys, hcfg, -, hevents, -, hhost⟩ := s.fed_keeps _ _
    exact ⟨_, hfed, rfl, hevents, rfl, htb, hhm, hcd, hsys, hcfg, s.fed_keepsStores _, hhost⟩
  case tsip =>
    intro s ident ident' data sent k b hp hcks hfits hwf hstate hmax hdle hetx h
    have hident : ident' ≠ dle ∧ ident' ≠ etx := by
      obtain ⟨-, hdle', hetx', -⟩ | ⟨rfl, -⟩ := h
      · exact ⟨hdle', hetx'⟩
      · exact ⟨hdle, hetx⟩
    obtain ⟨data', c, rfl, hlen, hwrong⟩ := tsip_corruption (k := k) (b := b) (sent := sent) <| by
      obtain ⟨hne, -, -, hsent⟩ | ⟨heq, hk, hne, -, -, hsent⟩ := h
      · exact .inl ⟨hne, hsent⟩
      · exact .inr ⟨heq, hk, hne, hsent⟩
    rw [← hlen] at hmax ⊢
    have hfed := (feeds_tsip_wrong_checksum hp hcks hfits hwf hstate hmax hident.1 hident.2 hwrong).feedAll_eq
      (by simp)
    obtain ⟨htb, hhm, hcd, hsys, hcfg, hph, hevents, -, hhost⟩ := s.fed_keeps _ _
    exact ⟨_, hfed, rfl, htb, hhm, hcd, hsys, hcfg, hph, hevents,
      fun a ha => (read_fed_writeList hwf (data' ++ [c])).2 a (by simpa using ha), hhost⟩

end Sys2Proof.Machine

/-! SUPPORT. The dispatch of a frame, message by message (R111 to R122): what a timing, a status and an unknown message
do to the block, whatever the protocol. -/

namespace Sys2Proof.Machine

variable {s t : State} {n : Nat} {ev : FeedEvent}

/-! ## HM.update and the units it does not read (R125) -/

/-- HM.update reads neither GpsDecoder nor the events so far nor the response: it does the same without them, and adds
the same events. -/
theorem hmUpdate_apart (s : State) (gd : GpsDecoder) (resp : Response) (events : List Event) :
    (hmUpdate { s with gd := gd, resp := resp, events := events }).hm = (hmUpdate s).hm ∧
      (hmUpdate { s with gd := gd, resp := resp, events := events }).cd = (hmUpdate s).cd ∧
      (hmUpdate { s with gd := gd, resp := resp, events := events }).oscIdx = (hmUpdate s).oscIdx ∧
      ∃ new, (hmUpdate s).events = s.events ++ new ∧
        (hmUpdate { s with gd := gd, resp := resp, events := events }).events = events ++ new := by
  refine ⟨?hm, ?cd, ?oscIdx, ?events⟩
  case hm => rw [hmUpdate_hm, hmUpdate_hm]; rfl
  case cd => rw [hmUpdate_cd, hmUpdate_cd]; rfl
  case oscIdx => rw [hmUpdate_oscIdx, hmUpdate_oscIdx]
  case events =>
    have htarget : updateTarget { s with gd := gd, resp := resp, events := events } = updateTarget s := rfl
    simp only [hmUpdate_events, htarget]
    split
    · exact ⟨[], by simp, by simp⟩
    · split
      · exact ⟨_, rfl, rfl⟩
      · exact ⟨_, List.append_assoc _ _ _, List.append_assoc _ _ _⟩
      · exact ⟨_, rfl, rfl⟩

/-- `HM.set_gps_status` on the statuses and the watchdog (R123). -/
theorem setGpsStatus_hm (x : SubStatus) (s : State) :
    (setGpsStatus x s).hm.gps = x ∧ (setGpsStatus x s).hm.gpsWdt = 0 ∧ (setGpsStatus x s).hm.osc = s.hm.osc ∧
      (setGpsStatus x s).hm.pll = s.hm.pll ∧ (setGpsStatus x s).hm.fll = s.hm.fll := by
  simp [setGpsStatus, hmUpdate_hm]

/-! ## The shape of a dispatch (R111) -/

theorem interpret_eq_withGd (n : Nat) (s : State) : (interpret n s).1 = s.withGd (interpret n s).1.gd := by
  unfold interpret interpretSirf interpretTsip interpretUbx
  split
  · split
    · rfl
    · split <;> rfl
  · split
    · rfl
    · split <;> rfl
  · split
    · rfl
    · split
      · rfl
      · split <;> rfl

theorem tbSetDate_eq_withTb (week tow : Nat) (off : Int) (s : State) :
    tbSetDate week tow off s = s.withTb (tbSetDate week tow off s).tb := by
  unfold tbSetDate
  dsimp only
  split
  · rfl
  · split <;> rfl

/-- The state that a dispatched frame leaves before its Gps status is set: a new date at most, new decoder registers, the
GPS watchdog refreshed. -/
def State.dispatched (s : State) (tb : TimeBase) (gd : GpsDecoder) : State :=
  { s with tb := tb, gd := gd, hm := { s.hm with gpsWdt := 0 } }

/-- A dispatch either counts an unknown frame and stops there, or sets the Gps status. -/
theorem dispatch_cases (h : dispatch n s = (t, ev)) :
    (ev = .none ∧ ∃ gd, t = s.dispatched s.tb gd) ∨
      (ev ≠ .none ∧ ∃ x tb gd, t = setGpsStatus x (s.dispatched tb gd)) := by
  have hread := interpret_eq_withGd n s.counted
  cases hmsg : (interpret n s.counted).2 with
  | timing week tow off valid =>
    rw [dispatch_of_timing hmsg, Prod.mk.injEq, hread] at h
    obtain ⟨rfl, rfl⟩ := h
    refine .inr ⟨nofun, ?_⟩
    unfold foldTiming
    dsimp only
    split
    · rw [tbSetDate_eq_withTb]
      exact ⟨_, _, _, rfl⟩
    · exact ⟨_, _, _, rfl⟩
  | status =>
    rw [dispatch_of_status hmsg, Prod.mk.injEq, hread] at h
    obtain ⟨rfl, rfl⟩ := h
    exact .inr ⟨nofun, _, _, _, rfl⟩
  | unknown =>
    rw [dispatch_of_unknown hmsg, Prod.mk.injEq, hread] at h
    obtain ⟨rfl, rfl⟩ := h
    exact .inl ⟨rfl, _, rfl⟩

/-- A message that is interpreted leaves HealthMonitor, ClockDiscipline, the request index and the new events as
HM_UPDATE does at the new date and Gps status (R111, R123). -/
theorem setGpsStatus_as_hmUpdate {x : SubStatus} {tb : TimeBase} {gd : GpsDecoder} (hosc : s.oscIdx = 0)
    (ht : t = setGpsStatus x (s.dispatched tb gd)) :
    ∃ u, exec .hmUpdate { s with tb := t.tb, hm := { s.hm with gps := t.hm.gps, gpsWdt := 0 } } = .next u ∧
      t.hm = u.hm ∧ t.cd = u.cd ∧ t.oscIdx = u.oscIdx ∧ t.events = s.events ++ u.events := by
  have htb : t.tb = tb := by rw [ht]; simp [State.dispatched]
  have hgps : t.hm.gps = x := by rw [ht]; exact (setGpsStatus_hm x _).1
  rw [htb, hgps]
  have hstart : State.start { s with tb := tb, hm := { s.hm with gps := x, gpsWdt := 0 } } =
      { (s.dispatched tb gd).withHm { s.hm with gps := x, gpsWdt := 0 } with
        gd := s.gd, resp := ⟨.ok, 0, 0⟩, events := [] } := by
    simp only [State.start, State.dispatched, State.withHm, hosc]
  obtain ⟨hhm, hcd, hoscIdx, new, hevents, hnew⟩ :=
    hmUpdate_apart ((s.dispatched tb gd).withHm { s.hm with gps := x, gpsWdt := 0 }) s.gd ⟨.ok, 0, 0⟩ []
  rw [← hstart] at hhm hcd hoscIdx hnew
  refine ⟨_, rfl, ?_⟩
  simp only [State.answer_hm, State.answer_cd, State.answer_oscIdx, State.answer_events]
  rw [hhm, hcd, hoscIdx, hnew, ht]
  exact ⟨rfl, rfl, rfl, hevents⟩

/-- What every dispatch does to the units besides GpsDecoder and the date, whatever the protocol and the message. -/
theorem dispatch_units (h : dispatch n s = (t, ev)) :
    (ev ≠ .none → s.oscIdx = 0 →
      ∃ u, exec .hmUpdate { s with tb := t.tb, hm := { s.hm with gps := t.hm.gps, gpsWdt := 0 } } = .next u ∧
        t.hm = u.hm ∧ t.cd = u.cd ∧ t.oscIdx = u.oscIdx ∧ t.events = s.events ++ u.events) ∧
    t.hm.gpsWdt = 0 ∧ t.hm.osc = s.hm.osc ∧ t.hm.pll = s.hm.pll ∧ t.hm.fll = s.hm.fll ∧ t.sys = s.sys ∧
    t.cfg = s.cfg ∧ s.KeepsStores t ∧ s.KeepsHost t := by
  obtain ⟨rfl, gd, rfl⟩ | ⟨-, x, tb, gd, ht⟩ := dispatch_cases h
  · exact ⟨fun hev => absurd rfl hev, rfl, rfl, rfl, rfl, rfl, rfl, ⟨fun _ => rfl, fun _ => rfl⟩, rfl, rfl, rfl, rfl⟩
  · refine ⟨fun _ hosc => setGpsStatus_as_hmUpdate hosc ht, ?_⟩
    obtain ⟨-, hwdt, hosc, hpll, hfll⟩ := setGpsStatus_hm x (s.dispatched tb gd)
    subst ht
    refine ⟨hwdt, hosc, hpll, hfll, ?_⟩
    simp [State.KeepsStores, State.KeepsHost, State.dispatched]

/-! ## The three kinds of message (R111, R112) -/

/-- TB.set_date reads nothing of the state but WEEK_SECONDS (R77). -/
theorem tbSetDate_tb_congr {s s' : State} (hbuild : s'.build = s.build) (week tow : Nat) (off : Int) :
    (tbSetDate week tow off s').tb = (tbSetDate week tow off s).tb := by
  unfold tbSetDate
  dsimp only
  rw [hbuild]
  split
  · rfl
  · split <;> rfl

theorem foldTiming_valid (week tow : Nat) (off : Int) (s : State) : foldTiming week tow off true s =
    setGpsStatus s.gd.alarm (tbSetDate week tow off (s.withGd { s.gd with fixValid := true })) := by
  unfold foldTiming
  simp [combineGps]

theorem foldTiming_invalid (week tow : Nat) (off : Int) (s : State) : foldTiming week tow off false s =
    setGpsStatus .unlock (s.withGd { s.gd with fixValid := false }) := rfl

/-- A timing message latches the validity of the fix and sets the date of a valid one (R111, R122). -/
theorem dispatch_timing {week tow : Nat} {off : Int} {valid : Bool} (h : dispatch n s = (t, ev))
    (hmsg : interpret n s.counted = (s.counted, .timing week tow off valid)) :
    ev = .fix ∧ t.gd = { s.gd with good := s.gd.good + 1, fixValid := valid } ∧
      (valid = true → t.tb = (tbSetDate week tow off s).tb ∧ t.hm.gps = s.gd.alarm) ∧
      (valid = false → t.tb = s.tb ∧ t.hm.gps = .unlock) := by
  rw [dispatch_of_timing (by rw [hmsg]), hmsg, Prod.mk.injEq] at h
  obtain ⟨rfl, rfl⟩ := h
  refine ⟨rfl, foldTiming_gd _ _ _ _ _, ?_, ?_⟩
  · rintro rfl
    rw [foldTiming_valid]
    exact ⟨(setGpsStatus_keeps _ _).1.trans (tbSetDate_tb_congr (by rfl) week tow off), (setGpsStatus_hm _ _).1⟩
  · rintro rfl
    rw [foldTiming_invalid]
    exact ⟨(setGpsStatus_keeps _ _).1, (setGpsStatus_hm _ _).1⟩

/-- A status message sets Gps to the combined status of the new latches (R111, R112). -/
theorem dispatch_status {gd : GpsDecoder} (h : dispatch n s = (t, ev))
    (hmsg : interpret n s.counted = (s.counted.withGd gd, .status)) :
    ev = .status ∧ t.tb = s.tb ∧ t.gd = gd ∧ t.hm.gps = if gd.fixValid then gd.alarm else .unlock := by
  rw [dispatch_of_status (by rw [hmsg]), hmsg, Prod.mk.injEq] at h
  obtain ⟨rfl, rfl⟩ := h
  exact ⟨rfl, (setGpsStatus_keeps _ _).1, (setGpsStatus_keeps _ _).2.1, (setGpsStatus_hm _ _).1⟩

/-- Any other message is counted in GD.unknown (R111). -/
theorem dispatch_unknown (h : dispatch n s = (t, ev)) (hmsg : interpret n s.counted = (s.counted, .unknown)) :
    ev = .none ∧ t.tb = s.tb ∧ t.gd = { s.gd with good := s.gd.good + 1, unknown := s.gd.unknown + 1 } ∧
      t.hm = { s.hm with gpsWdt := 0 } ∧ t.cd = s.cd ∧ t.events = s.events := by
  rw [dispatch_of_unknown (by rw [hmsg]), hmsg, Prod.mk.injEq] at h
  obtain ⟨rfl, rfl⟩ := h
  exact ⟨rfl, rfl, rfl, rfl, rfl, rfl⟩

end Sys2Proof.Machine

/-! SUPPORT. The messages of the three protocols (R67 to R74, R113 to R120): what each interpreter reads from its payload,
and the statements about them. -/

namespace Sys2Proof.Machine

variable {s : State} {n : Nat}

/-! ## Payload fields by their bytes (R40) -/

theorem State.be16_eq (s : State) (i : Nat) : s.be16 i = s.u8 i * 256 + s.u8 (i + 1) := by
  unfold State.be16; omega

theorem State.be32_eq (s : State) (i : Nat) :
    s.be32 i = s.u8 i * 16777216 + s.u8 (i + 1) * 65536 + s.u8 (i + 2) * 256 + s.u8 (i + 3) := by
  unfold State.be32; omega

theorem State.le16_eq (s : State) (i : Nat) : s.le16 i = s.u8 i + s.u8 (i + 1) * 256 := by
  unfold State.le16; omega

theorem State.le32_eq (s : State) (i : Nat) :
    s.le32 i = s.u8 i + s.u8 (i + 1) * 256 + s.u8 (i + 2) * 65536 + s.u8 (i + 3) * 16777216 := by
  unfold State.le32; omega

/-- A signed 16-bit field from its two bytes, the high byte's top bit being the sign. -/
theorem sext16_bytes {hi lo : Nat} (hhi : hi < 2 ^ 8) (hlo : lo < 2 ^ 8) :
    sext16 (2 ^ 8 * hi + lo) = if hi < 128 then ((hi * 256 + lo : Nat) : Int) else hi * 256 + lo - 65536 := by
  unfold sext16
  split <;> split <;> omega

theorem State.sbe16_eq (s : State) (i : Nat) : s.sbe16 i =
    if s.u8 i < 128 then ((s.u8 i * 256 + s.u8 (i + 1) : Nat) : Int) else s.u8 i * 256 + s.u8 (i + 1) - 65536 :=
  sext16_bytes (s.u8_lt i) (s.u8_lt (i + 1))

theorem State.s8_eq (s : State) (i : Nat) : s.s8 i = if s.u8 i < 128 then (s.u8 i : Int) else s.u8 i - 256 := by
  have hlt := s.u8_lt i
  unfold State.s8
  rw [BitVec.toInt_eq_toNat_cond]
  unfold State.u8 at *
  split <;> split <;> omega

/-! ## SIRF (R68, R69) -/

theorem interpret_sirf_clockStatus (hp : s.build.protocol = .sirf) (hn : 8 ≤ n) (htag : s.u8 0 = 7) :
    interpret n s = (s, sirfClockStatus s) := by
  simp only [interpret, hp, interpretSirf]
  rw [if_pos ⟨by omega, htag, hn⟩]

theorem interpret_sirf_ppsTime (hp : s.build.protocol = .sirf) (hn : 15 ≤ n) (htag : s.u8 0 = 52) :
    interpret n s = (sirfPpsTime s, .status) := by
  simp only [interpret, hp, interpretSirf]
  rw [if_neg (by omega), if_pos ⟨by omega, htag, hn⟩]

theorem interpret_sirf_other (hp : s.build.protocol = .sirf)
    (h : n = 0 ∨ (s.u8 0 ≠ 7 ∧ s.u8 0 ≠ 52) ∨ (s.u8 0 = 7 ∧ n < 8) ∨ (s.u8 0 = 52 ∧ n < 15)) :
    interpret n s = (s, .unknown) := by
  simp only [interpret, hp, interpretSirf]
  rw [if_neg (by omega), if_neg (by omega)]

/-- The time of a Clock Status message (R68, R113). -/
theorem sirfClockStatus_eq {week tow : Nat} {valid : Bool} (hweek : week = s.u8 1 * 256 + s.u8 2)
    (htow : tow = (s.u8 3 * 16777216 + s.u8 4 * 65536 + s.u8 5 * 256 + s.u8 6) / 100)
    (hvalid : valid = true ↔ s.gd.utcKnown = true ∧ 0 < s.u8 7 ∧ tow < s.build.weekSeconds) :
    sirfClockStatus s = .timing week tow s.gd.utcOffset.toInt valid := by
  have hweek' : s.be16 1 = week := (s.be16_eq 1).trans hweek.symm
  have htow' : s.be32 3 / 100 = tow := (congrArg (· / 100) (s.be32_eq 3)).trans htow.symm
  have hvalid' : (s.gd.utcKnown && decide (0 < s.u8 7) && decide (tow < s.build.weekSeconds)) = valid := by
    rw [Bool.eq_iff_iff, hvalid, Bool.and_eq_true, Bool.and_eq_true, decide_eq_true_eq, decide_eq_true_eq, and_assoc]
  simp only [sirfClockStatus, hweek', htow', hvalid']

/-- The latches of a 1PPS Time message (R69, R114). -/
theorem sirfPpsTime_eq {known : Bool} {off : Int} (hoff : off = s.sbe16 8)
    (hknown : known = true ↔ (s.u8 14).testBit 2 = true ∧ off ≠ -32768) :
    sirfPpsTime s = s.withGd { s.gd with
      utcKnown := known,
      utcOffset := if known then BitVec.ofInt 16 (-off) else s.gd.utcOffset,
      alarm := if (s.u8 14).testBit 0 = false then .unlock
        else if (s.u8 14).testBit 2 = false then .minorAlarm else .ok } := by
  have hlatch : (bitSet (s.u8 14) 2 && decide (s.sbe16 8 ≠ unusableOffset)) = known := by
    rw [Bool.eq_iff_iff, hknown, hoff, Bool.and_eq_true, decide_eq_true_eq]
    rfl
  simp only [sirfPpsTime, hlatch, hoff]
  rfl

/-- The offset of R69 and R114, negated, fits GD.utc_offset: −32768, which does not, is left out. -/
theorem toInt_negated_offset {off : Int} (hlow : -2 ^ 15 ≤ off) (hhigh : off < 2 ^ 15) (hne : off ≠ -32768) :
    (BitVec.ofInt 16 (-off)).toInt = -off := by
  rw [BitVec.toInt_ofInt]
  exact Int.bmod_eq_of_le (by omega) (by omega)

/-- Settles O58: the Clock Status message is a timing message, the 1PPS Time message a status message, and every other
frame unknown. -/
theorem sirfMessages : Obligations.SirfMessages := by
  intro s t n ev hp h byte g
  have hbyte (k : Nat) : byte k = s.counted.u8 k := rfl
  refine ⟨?clockStatus, ?ppsTime, fun hother => dispatch_unknown h (interpret_sirf_other (s := s.counted) hp hother), dispatch_units h⟩
  case clockStatus =>
    intro hn htag week tow valid hweek htow hvalid
    refine dispatch_timing h ((interpret_sirf_clockStatus (s := s.counted) hp hn htag).trans ?_)
    exact congrArg (Prod.mk _) (sirfClockStatus_eq (s := s.counted) hweek htow hvalid)
  case ppsTime =>
    intro hn htag known off hoff hknown
    have hoff' : off = s.counted.sbe16 8 := hoff.trans (s.counted.sbe16_eq 8).symm
    obtain ⟨hlow, hhigh⟩ := s.counted.sbe16_bounds 8
    rw [← hoff'] at hlow hhigh
    obtain ⟨hev, htb, hgd, hgps⟩ := dispatch_status h
      ((interpret_sirf_ppsTime (s := s.counted) hp hn htag).trans (by rw [sirfPpsTime_eq (s := s.counted) hoff' hknown]))
    rw [hgps, hgd]
    refine ⟨hev, htb, rfl, ?known, ?unknown, ?unlock, ?minor, ?ok, rfl, rfl⟩
    case known =>
      intro hk
      simp only [hk, if_true]
      exact toInt_negated_offset hlow hhigh (hknown.mp hk).2
    case unknown => intro hk; simp only [hk, Bool.false_eq_true, if_false]; rfl
    case unlock => intro h0; exact if_pos h0
    case minor => intro h0 h2; exact (if_neg (by rw [← hbyte, h0]; decide)).trans (if_pos h2)
    case ok =>
      intro h0 h2
      exact (if_neg (by rw [← hbyte, h0]; decide)).trans (if_neg (by rw [← hbyte, h2]; decide))

/-! ## TSIP (R70, R71) -/

theorem interpret_tsip_primary (hp : s.build.protocol = .tsip) (hn : 10 ≤ n) (hid : s.gd.id = 0x8F)
    (htag : s.u8 0 = 0xAB) : interpret n s = (s, tsipPrimaryTiming s) := by
  simp only [interpret, hp, interpretTsip]
  rw [if_pos ⟨hid, by omega, htag, hn⟩]

theorem interpret_tsip_supplemental (hp : s.build.protocol = .tsip) (hn : 13 ≤ n) (hid : s.gd.id = 0x8F)
    (htag : s.u8 0 = 0xAC) : interpret n s = (tsipSupplementalTiming s, .status) := by
  simp only [interpret, hp, interpretTsip]
  rw [if_neg (by omega), if_pos ⟨hid, by omega, htag, hn⟩]

theorem interpret_tsip_other (hp : s.build.protocol = .tsip)
    (h : s.gd.id ≠ 0x8F ∨ n = 0 ∨ (s.u8 0 ≠ 0xAB ∧ s.u8 0 ≠ 0xAC) ∨ (s.u8 0 = 0xAB ∧ n < 10) ∨
      (s.u8 0 = 0xAC ∧ n < 13)) : interpret n s = (s, .unknown) := by
  simp only [interpret, hp, interpretTsip]
  rw [if_neg fun ⟨hid, _, _, _⟩ => h.elim (· hid) (by omega), if_neg fun ⟨hid, _, _, _⟩ => h.elim (· hid) (by omega)]

/-- The time of a Primary Timing packet (R70, R115). -/
theorem tsipPrimaryTiming_eq {week tow : Nat} {u : Int} {valid : Bool}
    (htow : tow = s.u8 1 * 16777216 + s.u8 2 * 65536 + s.u8 3 * 256 + s.u8 4)
    (hweek : week = s.u8 5 * 256 + s.u8 6) (hu : u = s.sbe16 7)
    (hvalid : valid = true ↔ (s.u8 9).testBit 2 = false ∧ (s.u8 9).testBit 3 = false ∧ s.gd.block = false ∧
      tow < s.build.weekSeconds ∧ u ≠ -32768) :
    tsipPrimaryTiming s = .timing week tow (if u ≠ unusableOffset then -u else 0) valid := by
  have hweek' : s.be16 5 = week := (s.be16_eq 5).trans hweek.symm
  have htow' : s.be32 1 = tow := (s.be32_eq 1).trans htow.symm
  have hvalid' : (!bitSet (s.u8 9) 2 && !bitSet (s.u8 9) 3 && !s.gd.block && decide (tow < s.build.weekSeconds)
      && decide (u ≠ unusableOffset)) = valid := by
    rw [Bool.eq_iff_iff, hvalid]
    simp only [Bool.and_eq_true, Bool.not_eq_true', and_assoc, bitSet]
    rw [decide_eq_true_eq, decide_eq_true_eq]
    rfl
  simp only [tsipPrimaryTiming, hweek', htow', ← hu, hvalid']

/-- The alarm of a Supplemental Timing packet (R71, R116). -/
def tsipAlarm (b : Build) (crit minor dec : Nat) : SubStatus :=
  if crit ≠ 0 ∨ dec ≠ 0 ∨ minor &&& b.tsipUnlockMinorMask.toNat ≠ 0 then .unlock
  else if minor &&& b.tsipMinorAlarmMask.toNat ≠ 0 then .minorAlarm
  else .ok

/-- The latches of a Supplemental Timing packet (R71, R116): the block clears the fix. -/
theorem tsipSupplementalTiming_eq {crit minor : Nat} {block : Bool} (hcrit : crit = s.u8 8 * 256 + s.u8 9)
    (hminor : minor = s.u8 10 * 256 + s.u8 11)
    (hblock : block = true ↔ crit ≠ 0 ∨ minor &&& s.build.tsipFixblockMinorMask.toNat ≠ 0) :
    tsipSupplementalTiming s = s.withGd { s.gd with
      block := block, fixValid := s.gd.fixValid && !block, alarm := tsipAlarm s.build crit minor (s.u8 12) } := by
  have hcrit' : s.be16 8 = crit := (s.be16_eq 8).trans hcrit.symm
  have hminor' : s.be16 10 = minor := (s.be16_eq 10).trans hminor.symm
  have hblock' : (decide (crit ≠ 0) || decide (minor &&& s.build.tsipFixblockMinorMask.toNat ≠ 0)) = block := by
    rw [Bool.eq_iff_iff, hblock, Bool.or_eq_true, decide_eq_true_eq, decide_eq_true_eq]
  have hfix : (if block then false else s.gd.fixValid) = (s.gd.fixValid && !block) := by
    cases block <;> simp
  simp only [tsipSupplementalTiming, hcrit', hminor', hblock', hfix]
  rfl

/-- Settles O59: Primary Timing is a timing message, Supplemental Timing a status message, and every other packet
unknown. -/
theorem tsipMessages : Obligations.TsipMessages := by
  intro s t n ev hp h byte g
  refine ⟨?primary, ?supplemental,
    fun hother => dispatch_unknown h (interpret_tsip_other (s := s.counted) hp hother), dispatch_units h⟩
  case primary =>
    intro hn hid htag week tow u valid htow hweek hu hvalid
    have hu' : u = s.counted.sbe16 7 := hu.trans (s.counted.sbe16_eq 7).symm
    obtain ⟨hev, hgd, hset, hkeep⟩ := dispatch_timing h ((interpret_tsip_primary (s := s.counted) hp hn hid htag).trans
      (congrArg (Prod.mk _) (tsipPrimaryTiming_eq (s := s.counted) htow hweek hu' hvalid)))
    refine ⟨hev, hgd, fun hv => ?_, hkeep⟩
    obtain ⟨-, -, -, -, husable⟩ := hvalid.mp hv
    have hset := hset hv
    rwa [if_pos (show u ≠ unusableOffset from husable)] at hset
  case supplemental =>
    intro hn hid htag crit minor block hcrit hminor hblock
    obtain ⟨hev, htb, hgd, hgps⟩ := dispatch_status h
      ((interpret_tsip_supplemental (s := s.counted) hp hn hid htag).trans
        (congrArg (·, _) (tsipSupplementalTiming_eq (s := s.counted) hcrit hminor hblock)))
    rw [hgps, hgd]
    refine ⟨hev, htb, rfl, rfl, fun hbad => if_pos hbad, fun h0 h1 h2 hminorAlarm => ?_, fun h0 h1 h2 hok => ?_, rfl, rfl⟩
    · exact (if_neg (by tauto)).trans (if_pos hminorAlarm)
    · exact (if_neg (by tauto)).trans (if_neg (not_not.mpr hok))

/-! ## UBX (R72, R73, R74) -/

theorem interpret_ubx_timeGps (hp : s.build.protocol = .ubx) (hn : 12 ≤ n) (hcls : s.gd.cls = 0x01)
    (hid : s.gd.id = 0x20) : interpret n s = (s, ubxTimeGps s) := by
  simp only [interpret, hp, interpretUbx]
  rw [if_pos ⟨hcls, hid, hn⟩]

theorem interpret_ubx_navStatus (hp : s.build.protocol = .ubx) (hn : 6 ≤ n) (hcls : s.gd.cls = 0x01)
    (hid : s.gd.id = 0x03) : interpret n s = (ubxNavStatus s, .status) := by
  simp only [interpret, hp, interpretUbx]
  rw [if_neg (by simp [hid]), if_pos ⟨hcls, hid, hn⟩]

theorem interpret_ubx_surveyIn (hp : s.build.protocol = .ubx) (hn : 26 ≤ n) (hcls : s.gd.cls = 0x0D)
    (hid : s.gd.id = 0x04) : interpret n s = (ubxSurveyIn s, .status) := by
  simp only [interpret, hp, interpretUbx]
  rw [if_neg (by simp [hid]), if_neg (by simp [hid]), if_pos ⟨hcls, hid, hn⟩]

theorem interpret_ubx_other (hp : s.build.protocol = .ubx)
    (htime : ¬ (s.gd.cls = 0x01 ∧ s.gd.id = 0x20 ∧ 12 ≤ n)) (hstatus : ¬ (s.gd.cls = 0x01 ∧ s.gd.id = 0x03 ∧ 6 ≤ n))
    (hsvin : ¬ (s.gd.cls = 0x0D ∧ s.gd.id = 0x04 ∧ 26 ≤ n)) : interpret n s = (s, .unknown) := by
  simp only [interpret, hp, interpretUbx]
  rw [if_neg htime, if_neg hstatus, if_neg hsvin]

/-- The week of NAV-TIMEGPS as a signed field: not negative exactly below 2^15, and then the field itself. -/
theorem State.sle16_week {week i : Nat} (s : State) (hweek : week = s.u8 i + s.u8 (i + 1) * 256) :
    (0 ≤ s.sle16 i ↔ week < 32768) ∧ (week < 32768 → (s.sle16 i).toNat = week) := by
  have hfield : s.le16 i = week := (s.le16_eq i).trans hweek.symm
  have hlow := s.u8_lt i
  have hhigh := s.u8_lt (i + 1)
  have hsext : s.sle16 i = sext16 week := by rw [← hfield]; rfl
  rw [hsext]
  unfold sext16
  constructor <;> split <;> omega

/-- The time of a NAV-TIMEGPS frame (R72, R117). -/
theorem ubxTimeGps_eq {week tow : Nat} {leap : Int} {valid : Bool}
    (htow : tow = (s.u8 0 + s.u8 1 * 256 + s.u8 2 * 65536 + s.u8 3 * 16777216) / 1000)
    (hweek : week = s.u8 8 + s.u8 9 * 256) (hleap : leap = s.s8 10)
    (hvalid : valid = true ↔ s.u8 11 % 8 = 7 ∧ s.gd.block = false ∧ week < 32768 ∧ tow < s.build.weekSeconds) :
    ubxTimeGps s = .timing (s.sle16 8).toNat tow (-leap) valid := by
  have htow' : s.le32 0 / 1000 = tow := (congrArg (· / 1000) (s.le32_eq 0)).trans htow.symm
  have hflags : s.u8 11 &&& 0x07 = s.u8 11 % 8 := Nat.and_two_pow_sub_one_eq_mod _ 3
  have hvalid' : (decide (s.u8 11 &&& 0x07 = 0x07) && !s.gd.block && decide (0 ≤ s.sle16 8)
      && decide (tow < s.build.weekSeconds)) = valid := by
    rw [Bool.eq_iff_iff, hvalid, ← (s.sle16_week hweek).1, hflags]
    simp only [Bool.and_eq_true, Bool.not_eq_true', decide_eq_true_eq, and_assoc]
  simp only [ubxTimeGps, htow', ← hleap, hvalid']

/-- The alarm of a NAV-STATUS frame, from its fix type and its flags (R73, R118). -/
def ubxAlarm (fix flags : Nat) : SubStatus :=
  if flags.testBit 0 = false ∨ fix = 0 then .unlock else if fix = 3 ∨ fix = 5 then .ok else .minorAlarm

theorem ubxNavStatus_eq (s : State) : ubxNavStatus s = s.withGd { s.gd with alarm := ubxAlarm (s.u8 4) (s.u8 5) } := rfl

theorem ubxAlarm_eq (fix flags : Nat) :
    (flags.testBit 0 = false ∨ fix = 0 → ubxAlarm fix flags = .unlock) ∧
      (flags.testBit 0 = true → fix = 3 ∨ fix = 5 → ubxAlarm fix flags = .ok) ∧
      (flags.testBit 0 = true → fix ≠ 0 → fix ≠ 3 → fix ≠ 5 → ubxAlarm fix flags = .minorAlarm) := by
  unfold ubxAlarm
  refine ⟨fun hbad => if_pos hbad, fun h0 hfix => ?_, fun h0 hne h3 h5 => ?_⟩
  · rw [if_neg (not_or.mpr ⟨by simp [h0], by omega⟩), if_pos hfix]
  · rw [if_neg (not_or.mpr ⟨by simp [h0], hne⟩), if_neg (not_or.mpr ⟨h3, h5⟩)]

/-- The latches of a TIM-SVIN frame (R74, R119): the block clears the fix. -/
theorem ubxSurveyIn_eq (s : State) : ubxSurveyIn s = s.withGd { s.gd with
    block := decide (s.u8 25 ≠ 0), fixValid := s.gd.fixValid && !decide (s.u8 25 ≠ 0) } := by
  unfold ubxSurveyIn
  by_cases hb : s.u8 25 = 0 <;> simp [hb]

/-- Settles O60: NAV-TIMEGPS is a timing message, NAV-STATUS and TIM-SVIN status messages, and every other frame
unknown. -/
theorem ubxMessages : Obligations.UbxMessages := by
  intro s t n ev hp h byte g
  refine ⟨?timeGps, ?navStatus, ?surveyIn, fun htime hstatus hsvin =>
    dispatch_unknown h (interpret_ubx_other (s := s.counted) hp htime hstatus hsvin), dispatch_units h⟩
  case timeGps =>
    intro hn hcls hid week tow leap valid htow hweek hleap hvalid
    have hleap' : leap = s.counted.s8 10 := hleap.trans (s.counted.s8_eq 10).symm
    obtain ⟨hev, hgd, hset, hkeep⟩ := dispatch_timing h ((interpret_ubx_timeGps (s := s.counted) hp hn hcls hid).trans
      (congrArg (Prod.mk _) (ubxTimeGps_eq (s := s.counted) htow hweek hleap' hvalid)))
    refine ⟨hev, hgd, fun hv => ?_, hkeep⟩
    obtain ⟨-, -, hpos, -⟩ := hvalid.mp hv
    rw [← (s.counted.sle16_week hweek).2 hpos]
    exact hset hv
  case navStatus =>
    intro hn hcls hid
    obtain ⟨hev, htb, hgd, hgps⟩ := dispatch_status h
      ((interpret_ubx_navStatus (s := s.counted) hp hn hcls hid).trans (congrArg (·, _) (ubxNavStatus_eq s.counted)))
    obtain ⟨hunlock, hok, hminor⟩ := ubxAlarm_eq (byte 4) (byte 5)
    rw [hgps, hgd]
    exact ⟨hev, htb, hunlock, hok, hminor, rfl, rfl⟩
  case surveyIn =>
    intro hn hcls hid
    obtain ⟨hev, htb, hgd, hgps⟩ := dispatch_status h
      ((interpret_ubx_surveyIn (s := s.counted) hp hn hcls hid).trans (congrArg (·, _) (ubxSurveyIn_eq s.counted)))
    rw [hgps, hgd]
    exact ⟨hev, htb, decide_eq_true_iff, rfl, rfl, rfl⟩

end Sys2Proof.Machine

/-! SUPPORT. TimeBase (spec/40_timebase.md): the exact date after it is set or counted on, and the commands that read it
as nanoseconds, as an NTP timestamp and as Unix time (R76 to R87). -/

namespace Sys2Proof.Machine

variable {s t : State} {tick : Nat}

/-! ## What a rejection keeps (R174) -/

theorem State.keeps_reject (s : State) (st : Status) :
    s.KeepsBlock (s.reject st) ∧ s.KeepsHost (s.reject st) := by
  simp [State.KeepsBlock, State.KeepsHost]

/-! ## Setting the date (R77) -/

/-- A week number below 2^16, moved by one week at most, wraps at both ends of the register (R22, R77). -/
theorem week_ofInt {week : Nat} (hweek : week < 2 ^ 16) :
    (BitVec.ofInt 16 (week : Int)).toNat = week ∧
      (BitVec.ofInt 16 ((week : Int) - 1)).toNat = (if week = 0 then 65535 else week - 1) ∧
      (BitVec.ofInt 16 ((week : Int) + 1)).toNat = (if week = 65535 then 0 else week + 1) := by
  simp only [BitVec.toNat_ofInt]
  refine ⟨by omega, ?_, ?_⟩ <;> split <;> omega

section
variable {week tow wk : Nat} {off : Int} (hwk : wk = s.build.weekSeconds)
include hwk

theorem tbSetDate_of_borrow (h : (tow : Int) + off < 0) : (tbSetDate week tow off s).tb =
    ⟨BitVec.ofInt 16 ((week : Int) - 1), BitVec.ofInt 32 (tow + off + wk), true⟩ := by
  simp only [tbSetDate, if_pos h, hwk]; rfl

theorem tbSetDate_of_carry (h : (wk : Int) ≤ tow + off) : (tbSetDate week tow off s).tb =
    ⟨BitVec.ofInt 16 ((week : Int) + 1), BitVec.ofInt 32 (tow + off - wk), true⟩ := by
  have h0 : ¬ (tow : Int) + off < 0 := by omega
  subst hwk
  simp only [tbSetDate, if_neg h0, if_pos h]; rfl

theorem tbSetDate_within_week (h0 : 0 ≤ (tow : Int) + off) (h : (tow : Int) + off < wk) :
    (tbSetDate week tow off s).tb = ⟨BitVec.ofInt 16 (week : Int), BitVec.ofInt 32 (tow + off), true⟩ := by
  subst hwk
  simp only [tbSetDate, if_neg (Int.not_lt.mpr h0), if_neg (Int.not_le.mpr h)]; rfl

end

theorem tbSetDate_dateSet (week tow : Nat) (off : Int) (s : State) : (tbSetDate week tow off s).tb.dateSet = true := by
  unfold tbSetDate
  dsimp only
  split
  · rfl
  · split <;> rfl

theorem exec_tbSetDate_of_lt {week tow : Nat} {off : Int} (h : tow < s.build.weekSeconds) :
    exec (.tbSetDate week off tow) s = .next ((tbSetDate week tow off s.start).answer 0 0) :=
  if_neg (Nat.not_le.mpr h)

/-- Settles O17: below WEEK_SECONDS the sum is moved by one week at most, into the range of its register. -/
theorem setDateBorrowsAndCarries : Obligations.SetDateBorrowsAndCarries := by
  refine ⟨fun w h => ?decode, fun s week tow off h => ?reject,
    fun s week tow wk off hwk hlow hhigh hweek hoff hoff' htow => ?set⟩
  case decode => simp only [decode, decodeFields, h, operandU16_eq_mod, operandS16H_eq_div, operandU32]
  case reject =>
    obtain ⟨hblock, hhost⟩ := s.keeps_reject .errRange
    exact ⟨_, if_pos h, rfl, rfl, hblock, hhost⟩
  case set =>
    obtain ⟨hsame, hbefore, hafter⟩ := week_ofInt hweek
    have htowreg {v : Int} (h0 : 0 ≤ v) (h1 : v < wk) : ((BitVec.ofInt 32 v).toNat : Int) = v :=
      toNat_ofInt h0 (by omega)
    refine ⟨_, exec_tbSetDate_of_lt (hwk ▸ htow), rfl, by simp, tbSetDate_dateSet _ _ _ _, fun h => ?_, fun h h' => ?_,
      fun h => ?_, ?_⟩
    · rw [State.answer_tb, tbSetDate_of_borrow (s := s.start) hwk h]
      exact ⟨htowreg (by omega) (by omega), hbefore⟩
    · rw [State.answer_tb, tbSetDate_within_week (s := s.start) hwk h h']
      exact ⟨htowreg h h', hsame⟩
    · rw [State.answer_tb, tbSetDate_of_carry (s := s.start) hwk h]
      exact ⟨htowreg (by omega) (by omega), hafter⟩
    · simp [State.KeepsStores, State.KeepsHost]

/-! ## Counting on (R78) -/

theorem tbAdvance_within_week (h : s.tb.tow.toNat + 1 < s.build.weekSeconds) (hweek : s.build.weekSeconds ≤ 2 ^ 32) :
    (tbAdvance s).tb.tow.toNat = s.tb.tow.toNat + 1 ∧ (tbAdvance s).tb.week = s.tb.week := by
  rw [show tbAdvance s = _ from if_neg (Nat.ne_of_lt h)]
  exact ⟨(BitVec.toNat_ofNat _ _).trans (Nat.mod_eq_of_lt (by omega)), rfl⟩

theorem tbAdvance_at_week_end (h : s.tb.tow.toNat + 1 = s.build.weekSeconds) :
    (tbAdvance s).tb.tow.toNat = 0 ∧ (tbAdvance s).tb.week.toNat = (s.tb.week.toNat + 1) % 2 ^ 16 := by
  rw [show tbAdvance s = _ from if_pos h]
  exact ⟨rfl, BitVec.toNat_add _ _⟩

theorem tbAdvance_dateSet (s : State) : (tbAdvance s).tb.dateSet = s.tb.dateSet := by
  unfold tbAdvance
  dsimp only
  split <;> rfl

/-- Settles O18: the two cases of the advance. -/
theorem advanceCountsOneSecond : Obligations.AdvanceCountsOneSecond := by
  refine ⟨fun w h => by simp only [decode, decodeFields, h], fun s _ hweek => ?_⟩
  refine ⟨_, rfl, rfl, by simp, fun h => tbAdvance_within_week (s := s.start) h hweek,
    fun h => tbAdvance_at_week_end (s := s.start) h, tbAdvance_dateSet s.start, ?_⟩
  simp [State.KeepsStores, State.KeepsHost]

/-! ## The running date in seconds (R79, R80) -/

theorem tbSeconds_lt (h : s.build.weekSeconds ≤ 2 ^ 32) : tbSeconds s < 2 ^ 48 := by
  have hweek := s.tb.week.isLt
  have htow := s.tb.tow.isLt
  have hproduct : s.build.weekSeconds * s.tb.week.toNat ≤ 2 ^ 32 * (2 ^ 16 - 1) := Nat.mul_le_mul h (by omega)
  unfold tbSeconds
  omega

/-- The date in seconds, with the week and the second as the rules write them. -/
theorem tbSeconds_eq (s : State) :
    (tbSeconds s : Int) = s.tb.week.toNat * s.build.weekSeconds + s.tb.tow.toNat := by
  unfold tbSeconds
  push_cast
  ring

/-- Away from the wrap of the week the advance adds one second (R81). -/
theorem tbSeconds_tbAdvance (htow : s.tb.tow.toNat < s.build.weekSeconds) (hweek : s.build.weekSeconds ≤ 2 ^ 32)
    (hwrap : ¬ (s.tb.week.toNat = 65535 ∧ s.tb.tow.toNat + 1 = s.build.weekSeconds)) :
    tbSeconds (tbAdvance s) = tbSeconds s + 1 := by
  have hweeklt := s.tb.week.isLt
  have hbuild : (tbAdvance s).build = s.build := by simp
  unfold tbSeconds
  rw [hbuild]
  obtain hend | hmid : s.tb.tow.toNat + 1 = s.build.weekSeconds ∨ s.tb.tow.toNat + 1 < s.build.weekSeconds := by omega
  · obtain ⟨htow', hweek'⟩ := tbAdvance_at_week_end hend
    rw [htow', hweek', Nat.mod_eq_of_lt (by omega), Nat.mul_succ]
    omega
  · obtain ⟨htow', hweek'⟩ := tbAdvance_within_week hmid hweek
    rw [htow', hweek', Nat.add_assoc]

/-! ## Unix time and the date as held (R80, R86, R87) -/

/-- The Unix time fits the 64 bits of r0. -/
theorem wrap64_tbToUnix (h : s.build.weekSeconds ≤ 2 ^ 32) : (wrap64 (tbToUnix s)).toInt = tbToUnix s := by
  have := tbSeconds_lt h
  unfold tbToUnix Config.unixEpochOffset
  exact toInt_ofInt64 (by omega) (by omega)

theorem tbToUnix_eq (s : State) :
    tbToUnix s = 315964800 + s.tb.week.toNat * s.build.weekSeconds + s.tb.tow.toNat := by
  rw [tbToUnix, tbSeconds_eq, Int.add_assoc]
  rfl

/-- Settles O21: the Unix time and the registers fit the response. -/
theorem unixTimeAndDate : Obligations.UnixTimeAndDate := by
  refine ⟨fun w => ⟨fun h => by simp only [decode, decodeFields, h], fun h => by simp only [decode, decodeFields, h]⟩,
    fun s => ⟨fun hweek => ?unix, ?date⟩⟩
  case unix =>
    obtain ⟨hblock, hhost⟩ := s.keeps_start_answer (wrap64 (tbToUnix s)) 0
    exact ⟨_, rfl, rfl, rfl, (wrap64_tbToUnix hweek).trans (tbToUnix_eq s), rfl, hblock, hhost⟩
  case date =>
    have htow := s.tb.tow.isLt
    have hweek := s.tb.week.isLt
    have hr0 : ((wrap64 (s.tb.tow.toNat : Int)).toNat : Int) = s.tb.tow.toNat := toNat_ofInt (by omega) (by omega)
    have hr1 : (BitVec.ofNat 32 s.tb.week.toNat).toNat = s.tb.week.toNat :=
      (BitVec.toNat_ofNat _ _).trans (Nat.mod_eq_of_lt (by omega))
    obtain ⟨hblock, hhost⟩ := s.keeps_start_answer (wrap64 (s.tb.tow.toNat : Int)) (BitVec.ofNat 32 s.tb.week.toNat)
    exact ⟨_, rfl, rfl, Int.ofNat_inj.mp hr0, hr1, rfl, hblock, hhost⟩

/-! ## Exact floors (R12) -/

/-- Floor division, as the two inequalities that fix it (R12). -/
theorem fdiv_floor (a : Int) {b : Int} (hb : 0 < b) : fdiv a b * b ≤ a ∧ a < (fdiv a b + 1) * b :=
  ⟨Int.ediv_mul_le a (by omega), Int.lt_ediv_add_one_mul_self a hb⟩

/-- The floor of a proper fraction of `unit` lies below `unit`. -/
theorem fdiv_fraction {unit : Int} (hunit : 0 < unit) {hz : Nat} (htick : tick < hz) :
    0 ≤ fdiv (unit * tick) hz ∧ fdiv (unit * tick) hz < unit :=
  ⟨Int.ediv_nonneg (Int.mul_nonneg hunit.le (Int.natCast_nonneg _)) (Int.natCast_nonneg _),
    Int.ediv_lt_of_lt_mul (by omega) (Int.mul_lt_mul_of_pos_left (Int.ofNat_lt.mpr htick) hunit)⟩

/-! ## A tick in nanoseconds (R76, R83) -/

/-- A tick of the current second gives a phase within half a second of either side (R76). -/
theorem tbTick_bounds (htick : tick < s.build.tickHz) (hfudge : s.cfg.phaseFudgeNs.toInt.natAbs ≤ 500000000) :
    -500000000 ≤ tbTick s tick ∧ tbTick s tick ≤ 500000000 := by
  have hfloor := fdiv_fraction (unit := 10 ^ 9) (by decide) htick
  unfold tbTick
  dsimp only
  split <;> omega

theorem exec_tbTickToNs_of_lt (h : tick < s.build.tickHz) :
    exec (.tbTickToNs tick) s = .next (s.start.answer (wrap64 (tbTick s tick)) 0) :=
  if_neg (Nat.not_le.mpr h)

/-- Settles O19: the quotient is the floor, and the fold is the model's. -/
theorem tickToNanoseconds : Obligations.TickToNanoseconds := by
  refine ⟨fun w h => ?decode, fun s tick h => ?reject, fun s tick htick hfudge => ?read⟩
  case decode => simp only [decode, decodeFields, h, operandU32]
  case reject =>
    obtain ⟨hblock, hhost⟩ := s.keeps_reject .errRange
    exact ⟨_, if_pos h, rfl, rfl, hblock, hhost⟩
  case read =>
    obtain ⟨hlow, hhigh⟩ := tbTick_bounds htick hfudge
    obtain ⟨hfloor, hfloor'⟩ := fdiv_floor (10 ^ 9 * (tick : Int)) (b := s.build.tickHz) (by omega)
    obtain ⟨hblock, hhost⟩ := s.keeps_start_answer (wrap64 (tbTick s tick)) 0
    refine ⟨_, fdiv (10 ^ 9 * (tick : Int)) s.build.tickHz, tbTick s tick, exec_tbTickToNs_of_lt htick, rfl, rfl,
      toInt_ofInt64 (by omega) (by omega), ?_, ?_, fun h => if_pos h, fun h => if_neg (Int.not_lt.mpr h),
      hlow, hhigh, rfl, hblock, hhost⟩
    · rwa [Int.mul_comm (tick : Int)]
    · rwa [Int.mul_comm (tick : Int)]

/-! ## The NTP timestamp (R79, R85) -/

/-- A 64-bit pattern, read unsigned, is its value modulo 2^64 (R12). -/
theorem wrap64_toNat (v : Int) : ((wrap64 v).toNat : Int) = v % 2 ^ 64 := by
  rw [wrap64, BitVec.toNat_ofInt]
  exact Int.toNat_of_nonneg (Int.emod_nonneg _ (by decide))

theorem tbToNtp_toNat (s : State) (tick : Nat) (fudge : Int) : ((tbToNtp s tick fudge).toNat : Int) =
    ((2524953600 + tbSeconds s) * 2 ^ 32 + fdiv (2 ^ 32 * (tick : Int)) s.build.tickHz + fudge) % 2 ^ 64 := by
  rw [tbToNtp, wrap64_toNat, Int.mul_comm (2 ^ 32)]
  rfl

theorem exec_tbToNtp_of_lt (fudge : Int) (h : tick < s.build.tickHz) :
    exec (.tbToNtp tick fudge) s = .next (s.start.answer (tbToNtp s tick fudge) 0) :=
  if_neg (Nat.not_le.mpr h)

/-- Settles O20: the fraction is a floor below 2^32, and the sum wraps as a 64-bit pattern. -/
theorem ntpTimestamp : Obligations.NtpTimestamp := by
  refine ⟨fun w h => ?decode, fun s tick fudge h => ?reject, fun s tick fudge htick _ _ => ?read⟩
  case decode => simp only [decode, decodeFields, h, operandU32, operandS32]
  case reject =>
    obtain ⟨hblock, hhost⟩ := s.keeps_reject .errRange
    exact ⟨_, if_pos h, rfl, rfl, hblock, hhost⟩
  case read =>
    obtain ⟨hlow, hhigh⟩ := fdiv_fraction (unit := 2 ^ 32) (by decide) htick
    obtain ⟨hfloor, hfloor'⟩ := fdiv_floor (2 ^ 32 * (tick : Int)) (b := s.build.tickHz) (by omega)
    obtain ⟨hblock, hhost⟩ := s.keeps_start_answer (tbToNtp s tick fudge) 0
    refine ⟨_, fdiv (2 ^ 32 * (tick : Int)) s.build.tickHz, exec_tbToNtp_of_lt fudge htick, rfl, rfl, hlow, hhigh,
      ?_, ?_, ?_, rfl, hblock, hhost⟩
    · rwa [Int.mul_comm (tick : Int)]
    · rwa [Int.mul_comm (tick : Int)]
    · rw [State.answer_resp, tbToNtp_toNat, tbSeconds_eq, ← Int.add_assoc]

/-! ## One second on (R81) -/

theorem tbToNtp_of_tbSeconds_succ (hbuild : t.build = s.build) (hseconds : tbSeconds t = tbSeconds s + 1) (tick : Nat)
    (fudge : Int) : (tbToNtp t tick fudge).toNat = ((tbToNtp s tick fudge).toNat + 2 ^ 32) % 2 ^ 64 := by
  have hs := tbToNtp_toNat s tick fudge
  have ht := tbToNtp_toNat t tick fudge
  rw [hbuild, hseconds] at ht
  generalize fdiv (2 ^ 32 * (tick : Int)) s.build.tickHz = frac at hs ht
  omega

/-- Settles O22: the date in seconds is one more, and both readings are linear in it. -/
theorem advanceIsMonotone : Obligations.AdvanceIsMonotone := by
  intro s t htow hweek hwrap hhz ht
  cases ht
  have hseconds := tbSeconds_tbAdvance (s := s.start) htow hweek hwrap
  have hbuild : ((tbAdvance s.start).answer 0 0).build = s.build := by simp
  refine ⟨_, _, _, _, rfl, rfl, ?_, exec_tbToNtp_of_lt 0 hhz, exec_tbToNtp_of_lt 0 (by rwa [hbuild]),
    tbToNtp_of_tbSeconds_succ hbuild hseconds 0 0⟩
  rw [State.answer_resp, State.answer_resp, wrap64_tbToUnix hweek, wrap64_tbToUnix (by rwa [hbuild])]
  change Config.unixEpochOffset + (tbSeconds (tbAdvance s.start) : Int) = Config.unixEpochOffset + tbSeconds s + 1
  rw [hseconds]
  push_cast
  rfl

end Sys2Proof.Machine

/-! SUPPORT. The steering part of a step cut into its stages (R142, R147 to R154): the state that each hands to the next,
and the registers of ClockDiscipline that it writes. -/

namespace Sys2Proof.Machine

variable {s : State} {p : Int}

/-! ## The stages (R142) -/

/-- The state and the slew rate once the sample `p` is filtered (R147, R148). -/
def steerSlewed (p : Int) (s : State) : State × Int := pllSlew (lowPass p s).2 (lowPass p s).1

/-- The state after the FLL, which runs once the settling period has passed (R149). -/
def steerLearned (p : Int) (s : State) : State :=
  if fllActive s then fllUpdate p (steerSlewed p s).1 else (steerSlewed p s).1

/-- The dither term of the step (R150). -/
def steerDither (p : Int) (s : State) : Int := if fllActive s then ditherTerm (steerLearned p s) else 0

/-- The state and the realized rate after the rate command (R151). -/
def steerCommanded (p : Int) (s : State) : State × Int :=
  cdCommand ((steerSlewed p s).2 + (steerLearned p s).cd.fllRate.toInt + steerDither p s) (steerLearned p s)

/-- The state after the feedback (R152). -/
def steerFedBack (p : Int) (s : State) : State :=
  pllFeedback (steerSlewed p s).2 (steerCommanded p s).2 (steerDither p s) (steerCommanded p s).1

/-- The state just before the lock evaluation (R153, R154). -/
def steerBooked (p : Int) (s : State) : State :=
  bookkeeping p (lowPass p s).2 (steerDither p s) (ramps (lowPass p s).2 (fllActive s) (steerFedBack p s))

/-- The stages together are the steering part of a step (R142). -/
theorem steer_eq_stages (p : Int) (s : State) : steer p s = lockEvaluation (lowPass p s).2 (steerBooked p s) := rfl

@[simp] theorem steerLearned_keeps (p : Int) (s : State) :
    (steerLearned p s).tb = s.tb ∧ (steerLearned p s).hm = s.hm ∧ (steerLearned p s).sys = s.sys ∧
      (steerLearned p s).cfg = s.cfg ∧ (steerLearned p s).build = s.build := by
  unfold steerLearned steerSlewed
  split <;> simp

@[simp] theorem steerFedBack_keeps (p : Int) (s : State) :
    (steerFedBack p s).tb = s.tb ∧ (steerFedBack p s).hm = s.hm ∧ (steerFedBack p s).sys = s.sys ∧
      (steerFedBack p s).cfg = s.cfg ∧ (steerFedBack p s).build = s.build := by
  simp [steerFedBack, steerCommanded]

@[simp] theorem steerBooked_keeps (p : Int) (s : State) :
    (steerBooked p s).tb = s.tb ∧ (steerBooked p s).hm = s.hm ∧ (steerBooked p s).sys = s.sys ∧
      (steerBooked p s).cfg = s.cfg ∧ (steerBooked p s).build = s.build := by
  simp [steerBooked]

/-! ## What a stage writes -/

/-- The jump filter writes its counter and its count of substitutions (R144). -/
theorem jumpFilter_cd (p : Int) (s : State) : ∃ counter subs,
    (jumpFilter p s).1.cd = { s.cd with jumpCounter := counter, jumpSubs := subs } := by
  unfold jumpFilter
  split
  · split <;> exact ⟨_, _, rfl⟩
  · exact ⟨_, _, rfl⟩

/-- From the filter to the feedback a step leaves the factors and the ramps. -/
theorem steerFedBack_cd_keeps (p : Int) (s : State) :
    (steerFedBack p s).cd.pllFactor = s.cd.pllFactor ∧ (steerFedBack p s).cd.fllFactor = s.cd.fllFactor ∧
      (steerFedBack p s).cd.pllRamp = s.cd.pllRamp ∧ (steerFedBack p s).cd.fllRamp = s.cd.fllRamp := by
  unfold steerFedBack steerCommanded steerLearned
  split <;> exact ⟨rfl, rfl, rfl, rfl⟩

/-- After the feedback the filter registers are as the filter left them (R147). -/
theorem steerFedBack_filter (p : Int) (s : State) :
    (steerFedBack p s).cd.filtQ = (lowPass p s).1.cd.filtQ ∧ (steerFedBack p s).cd.filtValid = true ∧
      (steerFedBack p s).cd.filtered = BitVec.ofInt 32 (lowPass p s).2 := by
  unfold steerFedBack steerCommanded steerLearned
  split <;> exact ⟨rfl, rfl, rfl⟩

/-- After the feedback the FLL's accumulator is as the FLL left it (R149). -/
theorem steerFedBack_fllAcc (p : Int) (s : State) :
    (steerFedBack p s).cd.fllAcc = if fllActive s then (fllUpdate p (steerSlewed p s).1).cd.fllAcc else s.cd.fllAcc := by
  unfold steerFedBack steerCommanded steerLearned
  split <;> rfl

/-- After the feedback the realized rate is the one commanded (R151). -/
theorem steerFedBack_realizedLast (p : Int) (s : State) :
    (steerFedBack p s).cd.realizedLast = BitVec.ofInt 64 (steerCommanded p s).2 := rfl

/-- The feedback finds the PLL's accumulator as the slew left it (R148, R152). -/
theorem steerCommanded_pll (p : Int) (s : State) :
    (steerCommanded p s).1.cd.pllAcc = BitVec.ofInt 64 (s.cd.pllAcc.toInt - 1000 * (lowPass p s).2) ∧
      (steerCommanded p s).1.cd.pllFactor = s.cd.pllFactor := by
  unfold steerCommanded steerLearned
  split <;> exact ⟨rfl, rfl⟩

/-- A ramp register after a step that counts in it (R153). -/
def rampAfter (interval : Nat) (ramp : Word) : Word :=
  if interval ≤ (satInc32 ramp).toNat then 0 else satInc32 ramp

/-- A factor after a step that counts in its ramp (R153). -/
def factorAfter (interval : Nat) (ramp : Word) (factor top : Half) : Half :=
  if interval ≤ (satInc32 ramp).toNat then raiseFactor factor top else factor

/-- The PLL half of the ramps (R153). -/
theorem pllRampStep_cd (f : Int) (s : State) : (pllRampStep f s).cd = { s.cd with
    pllRamp := if f.natAbs ≤ s.build.pllHealthyNs then rampAfter s.build.pllRampInterval s.cd.pllRamp else 0,
    pllFactor := if f.natAbs ≤ s.build.pllHealthyNs then
        factorAfter s.build.pllRampInterval s.cd.pllRamp s.cd.pllFactor s.cfg.pllFactorMax
      else s.cd.pllFactor } := by
  unfold pllRampStep rampAfter factorAfter
  dsimp only
  split
  · split <;> rfl
  · rfl

/-- The FLL half of the ramps (R153). -/
theorem fllRampStep_cd (active : Bool) (s : State) : (fllRampStep active s).cd = { s.cd with
    fllRamp := if active then rampAfter s.build.fllRampInterval s.cd.fllRamp else s.cd.fllRamp,
    fllFactor := if active then
        factorAfter s.build.fllRampInterval s.cd.fllRamp s.cd.fllFactor s.cfg.fllFactorMax
      else s.cd.fllFactor } := by
  unfold fllRampStep rampAfter factorAfter
  dsimp only
  split
  · split <;> rfl
  · rfl

theorem ramps_cd (f : Int) (active : Bool) (s : State) : (ramps f active s).cd = { s.cd with
    pllRamp := if f.natAbs ≤ s.build.pllHealthyNs then rampAfter s.build.pllRampInterval s.cd.pllRamp else 0,
    pllFactor := if f.natAbs ≤ s.build.pllHealthyNs then
        factorAfter s.build.pllRampInterval s.cd.pllRamp s.cd.pllFactor s.cfg.pllFactorMax
      else s.cd.pllFactor,
    fllRamp := if active then rampAfter s.build.fllRampInterval s.cd.fllRamp else s.cd.fllRamp,
    fllFactor := if active then
        factorAfter s.build.fllRampInterval s.cd.fllRamp s.cd.fllFactor s.cfg.fllFactorMax
      else s.cd.fllFactor } := by
  simp [ramps, fllRampStep_cd, pllRampStep_cd]

/-- The bookkeeping on ClockDiscipline, but for the ring and the dither (R154). -/
theorem bookkeeping_cd (p f dither : Int) (s : State) : ∃ head count, (bookkeeping p f dither s).cd = { s.cd with
    prevPhase := BitVec.ofInt 32 p, prevValid := true, histHead := head, histCount := count,
    ditherLast := BitVec.ofInt 8 dither, secondsSinceReset := satInc32 s.cd.secondsSinceReset } :=
  ⟨_, _, rfl⟩

end Sys2Proof.Machine

/-! SUPPORT. The ranges of the discipline's registers (R142, R145, R147, R149, R151, R152): each stage of a step writes
values within them, every other operation resets the registers or leaves them, and so every step keeps them. -/

namespace Sys2Proof

section
variable {b : Build}

theorem Build.filtDiv_bounds (h : b.legal = true) : 1 ≤ b.filtDivMin ∧ b.filtDivMin ≤ b.filtDivMax := by
  simp only [Build.legal, decide_eq_true_eq] at h; omega

theorem Build.fllSmoothing_le (h : b.fits = true) : b.fllSmoothing ≤ 2 ^ 32 := by
  simp only [Build.fits, decide_eq_true_eq] at h; omega

theorem Build.pllCarryMax_le (h : b.fits = true) : b.pllCarryMax ≤ 2 ^ 32 := by
  simp only [Build.fits, decide_eq_true_eq] at h; omega

theorem Build.resyncPhaseNs_le (h : b.fits = true) : b.resyncPhaseNs ≤ 1000000000 := by
  simp only [Build.fits, decide_eq_true_eq] at h; omega

theorem Build.trimRange_le (h : b.fits = true) : b.timerTrimMax * b.timerGranPpt ≤ 2 ^ 62 := by
  simp only [Build.fits, decide_eq_true_eq] at h; omega

/-- The largest filter state fits its register (R147). -/
theorem Build.filterRange_lt (h : b.fits = true) : b.resyncPhaseNs * 2 ^ b.filtFracBits < 2 ^ 62 := by
  have hphase := Build.resyncPhaseNs_le h
  have hbits : b.filtFracBits ≤ 32 := by simp only [Build.fits, decide_eq_true_eq] at h; omega
  calc b.resyncPhaseNs * 2 ^ b.filtFracBits ≤ 1000000000 * 2 ^ 32 :=
        Nat.mul_le_mul hphase (Nat.pow_le_pow_right (by decide) hbits)
    _ < 2 ^ 62 := by decide

end

end Sys2Proof

namespace Sys2Proof.Machine

variable {s t u : State} {p : Int}

/-! ## Truncating division (R12) -/

/-- A truncated quotient lies between 0 and the dividend. -/
theorem tdiv_between (a : Int) {d : Int} (hd : 1 ≤ d) :
    (0 ≤ a → 0 ≤ tdiv a d ∧ tdiv a d ≤ a) ∧ (a ≤ 0 → a ≤ tdiv a d ∧ tdiv a d ≤ 0) := by
  have hpos {a : Int} (ha : 0 ≤ a) : 0 ≤ tdiv a d ∧ tdiv a d ≤ a :=
    ⟨Int.tdiv_nonneg ha (by omega), Int.tdiv_le_self d ha⟩
  refine ⟨hpos, fun ha => ?_⟩
  have hneg := hpos (a := -a) (by omega)
  simp only [tdiv, Int.neg_tdiv] at hneg ⊢
  omega

/-- A quotient by the filter's scale is bounded by what the dividend's bound is a multiple of (R147). -/
theorem tdiv_natAbs_le {q : Int} {bound scale : Nat} (hq : q.natAbs ≤ bound * scale) :
    (tdiv q scale).natAbs ≤ bound := by
  rw [tdiv, Int.natAbs_tdiv, Int.natAbs_natCast]
  exact Nat.div_le_of_le_mul (by rwa [Nat.mul_comm])

/-! ## The ranges as predicates on ClockDiscipline and the pending sample -/

/-- The ranges of ClockDiscipline's registers in `State.Bounded`. -/
structure DisciplineBounded (b : Build) (cd : ClockDiscipline) : Prop where
  prev : cd.prevValid = true → cd.prevPhase.toInt.natAbs ≤ b.resyncPhaseNs
  settled : cd.prevValid = false → cd.secondsSinceReset = 0
  filt : cd.filtValid = true → cd.filtQ.toInt.natAbs ≤ b.resyncPhaseNs * 2 ^ b.filtFracBits
  pllAcc : cd.pllAcc.toInt.natAbs < (b.pllCarryMax + 1) * b.factorLimit
  fllAcc : cd.fllAcc.toInt.natAbs < b.factorLimit * b.fllSmoothing
  realized : cd.realizedLast.toInt.natAbs ≤ 2 ^ 31 + b.timerTrimMax * b.timerGranPpt

/-- The range of the pending sample (R76, R141). -/
def SampleBounded (sys : Sequencing) : Prop := sys.pendingPhase.toInt.natAbs ≤ 500000000

theorem State.bounded_iff (s : State) : s.Bounded ↔ DisciplineBounded s.build s.cd ∧ SampleBounded s.sys :=
  ⟨fun ⟨h1, h2, h3, h4, h5, h6, h7⟩ => ⟨⟨h1, h2, h3, h4, h5, h6⟩, h7⟩,
    fun ⟨⟨h1, h2, h3, h4, h5, h6⟩, h7⟩ => ⟨h1, h2, h3, h4, h5, h6, h7⟩⟩

theorem State.Bounded.discipline (h : s.Bounded) : DisciplineBounded s.build s.cd := (s.bounded_iff.mp h).1

theorem State.Bounded.sample (h : s.Bounded) : SampleBounded s.sys := (s.bounded_iff.mp h).2

/-- An operation that leaves the instance and the pending sample keeps the ranges when ClockDiscipline does. -/
theorem State.Bounded.of_discipline (h : s.Bounded) (hbuild : t.build = s.build) (hsys : t.sys = s.sys)
    (hcd : DisciplineBounded s.build t.cd) : t.Bounded :=
  t.bounded_iff.mpr ⟨hbuild ▸ hcd, hsys ▸ h.sample⟩

/-- The ranges speak of the instance, ClockDiscipline and the pending sample only. -/
theorem State.Bounded.congr (h : s.Bounded) (hbuild : t.build = s.build) (hcd : t.cd = s.cd) (hsys : t.sys = s.sys) :
    t.Bounded :=
  h.of_discipline hbuild hsys (hcd ▸ h.discipline)

section
variable {b : Build} {c : ClockDiscipline}

/-- The ranges do not speak of these registers. -/
theorem DisciplineBounded.of_unranged (h : DisciplineBounded b c) (jumpCounter : Byte) (jumpSubs skipped resyncCount : Word)
    (pllFactor fllFactor : Half) (fllRate : Word) :
    DisciplineBounded b { c with
      jumpCounter := jumpCounter, jumpSubs := jumpSubs, skipped := skipped, resyncCount := resyncCount,
      pllFactor := pllFactor, fllFactor := fllFactor, fllRate := fllRate } :=
  ⟨h.prev, h.settled, h.filt, h.pllAcc, h.fllAcc, h.realized⟩

/-- A discipline reset clears every register that has a range (R146). -/
theorem disciplineReset_bounded (h : DisciplineBounded b c) (kind : ResetKind) (s : State) :
    DisciplineBounded b (disciplineReset kind s).cd :=
  ⟨nofun, fun _ => rfl, nofun, Nat.zero_lt_of_lt h.pllAcc, Nat.zero_lt_of_lt h.fllAcc, Nat.zero_le _⟩

end

/-! ## HealthMonitor (R123 to R129, R156, R157) -/

/-- HM.update leaves ClockDiscipline, resets it, or lowers its factors. -/
theorem hmUpdate_bounded (h : s.Bounded) : (hmUpdate s).Bounded := by
  refine h.of_discipline (by simp) (by simp) ?_
  rw [hmUpdate_cd]
  split
  · exact h.discipline
  · split
    · split
      · exact h.discipline.of_unranged _ _ _ _ _ _ _
      · exact h.discipline
    · exact disciplineReset_bounded h.discipline _ _
    · exact h.discipline

/-- A setter writes HealthMonitor, then updates. -/
theorem hmUpdate_withHm_bounded (x : HealthMonitor) (h : s.Bounded) : (hmUpdate (s.withHm x)).Bounded :=
  hmUpdate_bounded (h.congr rfl rfl rfl)

theorem lockEvaluation_bounded (f : Int) (h : s.Bounded) : (lockEvaluation f s).Bounded := by
  have hlatched : (if pllLocked f s then s.withHm { s.hm with reftime := tbToNtp s 0 0 } else s).Bounded := by
    split
    · exact h.congr rfl rfl rfl
    · exact h
  exact hmUpdate_withHm_bounded _ (hmUpdate_withHm_bounded _ hlatched)

/-! ## The stages of a step (R147 to R154) -/

/-- The filter's state moves towards the sample, so that it stays within the samples' range, scaled; and its output
within that range (R147). -/
theorem lowPass_bounded (hlegal : s.build.legal = true) (hfits : s.build.fits = true) (h : DisciplineBounded s.build s.cd)
    (hp : p.natAbs ≤ s.build.resyncPhaseNs) :
    (lowPass p s).1.cd.filtQ.toInt.natAbs ≤ s.build.resyncPhaseNs * 2 ^ s.build.filtFracBits ∧
      (lowPass p s).2.natAbs ≤ s.build.resyncPhaseNs := by
  have hrange := Build.filterRange_lt hfits
  obtain ⟨hdmin, hdle⟩ := Build.filtDiv_bounds hlegal
  have hdivisor : 1 ≤ filterDivisor s := by
    have := clamp_bounds (v := s.cd.pllFactor.toNat) (lo := s.build.filtDivMin) (hi := s.build.filtDivMax) (by omega)
    unfold filterDivisor
    omega
  have hscaled : (p * 2 ^ s.build.filtFracBits).natAbs ≤ s.build.resyncPhaseNs * 2 ^ s.build.filtFracBits := by
    rw [Int.natAbs_mul, Int.natAbs_pow]
    exact Nat.mul_le_mul_right _ hp
  have hstate : ∀ q : Int, q = (if s.cd.filtValid then s.cd.filtQ.toInt +
        tdiv (p * 2 ^ s.build.filtFracBits - s.cd.filtQ.toInt) (filterDivisor s)
      else p * 2 ^ s.build.filtFracBits) → q.natAbs ≤ s.build.resyncPhaseNs * 2 ^ s.build.filtFracBits := by
    rintro q rfl
    split
    · next hvalid =>
      have hheld := h.filt hvalid
      have hmove := tdiv_between (p * 2 ^ s.build.filtFracBits - s.cd.filtQ.toInt) hdivisor
      omega
    · exact hscaled
  have hq := hstate _ rfl
  refine ⟨?_, ?_⟩
  · simp only [lowPass, State.withCd_cd]
    rw [toInt_ofInt64 (by omega) (by omega)]
    exact hq
  · have := tdiv_natAbs_le hq
    simpa [lowPass] using this

/-- A clamped value between symmetric bounds. -/
theorem clamp_natAbs_le (v : Int) (top : Nat) : (clamp v (-(top : Int)) top).natAbs ≤ top := by
  have := clamp_bounds (v := v) (lo := -(top : Int)) (hi := top) (by omega)
  omega

/-- A remainder smaller than the factor with a carry of at most `top` factors. -/
theorem rem_add_carry_lt {r c : Int} {factor top : Nat} (hr : r.natAbs < factor) (hc : c.natAbs ≤ top) :
    (r + c * factor).natAbs < (top + 1) * factor :=
  calc (r + c * factor).natAbs ≤ r.natAbs + (c * factor).natAbs := Int.natAbs_add_le _ _
    _ = r.natAbs + c.natAbs * factor := by rw [Int.natAbs_mul, Int.natAbs_natCast]
    _ < factor + top * factor := Nat.add_lt_add_of_lt_of_le hr (Nat.mul_le_mul_right _ hc)
    _ = (top + 1) * factor := by rw [Nat.succ_mul, Nat.add_comm]

/-- The feedback keeps the remainder of the slew, smaller than the factor, and adds a carry of at most PLL_CARRY_MAX
factors (R148, R152). -/
theorem pllFeedback_pllAcc {slew : Int} (realized dither : Int) (hfits : s.build.fits = true)
    (hfactor : 1 ≤ s.cd.pllFactor.toNat) (hslew : slew = tdiv s.cd.pllAcc.toInt s.cd.pllFactor.toNat) :
    (pllFeedback slew realized dither s).cd.pllAcc.toInt.natAbs < (s.build.pllCarryMax + 1) * s.cd.pllFactor.toNat := by
  have hcarrymax := Build.pllCarryMax_le hfits
  have hfactorlt := s.cd.pllFactor.isLt
  obtain ⟨hrem, -⟩ := tdiv_rem s.cd.pllAcc.toInt (b := s.cd.pllFactor.toNat) (by omega)
  rw [← hslew, Int.natAbs_natCast] at hrem
  have hnew := rem_add_carry_lt hrem
    (clamp_natAbs_le (slew - (realized - s.cd.fllRate.toInt - dither)) s.build.pllCarryMax)
  have hrange : (s.build.pllCarryMax + 1) * s.cd.pllFactor.toNat ≤ (2 ^ 32 + 1) * 2 ^ 16 :=
    Nat.mul_le_mul (by omega) (by omega)
  simp only [pllFeedback, State.withCd_cd]
  rw [toInt_ofInt64 (by omega) (by omega)]
  exact hnew

/-- The FLL keeps the remainder of its accumulator, smaller than its divisor (R149). -/
theorem fllUpdate_fllAcc (p : Int) (hdivisor : 1 ≤ fllDivisor s) (hrange : fllDivisor s ≤ 2 ^ 48) :
    (fllUpdate p s).cd.fllAcc.toInt.natAbs < fllDivisor s := by
  obtain ⟨hrem, -⟩ := tdiv_rem
    (s.cd.fllAcc.toInt + (s.cd.realizedLast.toInt - s.cd.fllRate.toInt - 1000 * (p - s.cd.prevPhase.toInt)))
    (b := fllDivisor s) (by omega)
  rw [Int.natAbs_natCast] at hrem
  simp only [fllUpdate, State.withCd_cd]
  rw [toInt_ofInt64 (by omega) (by omega)]
  exact hrem

/-- The driver's reply is an i32 (R17). -/
theorem oscReply_bounds (s : State) (req : Int) : -2 ^ 31 ≤ s.oscReply req ∧ s.oscReply req < 2 ^ 31 := by
  unfold State.oscReply
  split
  · next r _ => exact ⟨r.le_toInt, r.toInt_lt⟩
  · exact ⟨BitVec.le_toInt _, BitVec.toInt_lt⟩

/-- The realized rate is a reply and a trim (R151). -/
theorem cdCommand_realized_le (rate : Int) (s : State) :
    (cdCommand rate s).2.natAbs ≤ 2 ^ 31 + s.build.timerTrimMax * s.build.timerGranPpt := by
  have hreply := oscReply_bounds s (oscRequest s rate)
  have htrim : (timerTrim s rate (s.oscReply (oscRequest s rate))).natAbs ≤ s.build.timerTrimMax := clamp_natAbs_le _ _
  calc (cdCommand rate s).2.natAbs
      ≤ (s.oscReply (oscRequest s rate)).natAbs +
          (timerTrim s rate (s.oscReply (oscRequest s rate)) * s.build.timerGranPpt).natAbs := Int.natAbs_add_le _ _
    _ ≤ 2 ^ 31 + s.build.timerTrimMax * s.build.timerGranPpt := by
        rw [Int.natAbs_mul, Int.natAbs_natCast]
        exact Nat.add_le_add (by omega) (Nat.mul_le_mul_right _ htrim)

/-! ## The step (R142 to R145) -/

/-- The FLL's divisor where the invariants hold: at least 1, and within the range of its accumulator (R149). -/
theorem fllDivisor_bounds (hlegal : s.build.legal = true) (h : s.PreInv) :
    1 ≤ fllDivisor s ∧ fllDivisor s ≤ s.build.factorLimit * s.build.fllSmoothing := by
  have hsmoothing := Build.one_le_fllSmoothing hlegal
  have hmin := h.config.fllMin
  have hmax := h.config.fllMax
  have hlow := h.discipline.fllLow
  have hhigh := h.discipline.fllHigh
  exact ⟨Nat.mul_pos (by omega) (by omega), Nat.mul_le_mul_right _ (by omega)⟩

section
variable (hlegal : s.build.legal = true) (hfits : s.build.fits = true) (h : s.PreInv)
  (hbounded : DisciplineBounded s.build s.cd)
include hlegal hfits h hbounded

/-- The slew's accumulator fits its register, so that the feedback finds it exact (R11, R148). -/
theorem steerFedBack_pllAcc (hp : p.natAbs ≤ s.build.resyncPhaseNs) :
    (steerFedBack p s).cd.pllAcc.toInt.natAbs < (s.build.pllCarryMax + 1) * s.cd.pllFactor.toNat := by
  obtain ⟨-, hf⟩ := lowPass_bounded hlegal hfits hbounded hp
  obtain ⟨-, hlimit⟩ := Build.factorLimit_bounds hfits
  have hcarrymax := Build.pllCarryMax_le hfits
  have hphase := Build.resyncPhaseNs_le hfits
  have hfactor := h.config.pllMin.trans h.discipline.pllLow
  have hheld := hbounded.pllAcc
  have hrange : (s.build.pllCarryMax + 1) * s.build.factorLimit ≤ (2 ^ 32 + 1) * 2 ^ 16 :=
    Nat.mul_le_mul (by omega) (by omega)
  have hexact := toInt_ofInt64 (v := s.cd.pllAcc.toInt - 1000 * (lowPass p s).2) (by omega) (by omega)
  obtain ⟨hacc, hkept⟩ := steerCommanded_pll p s
  have hbuild : (steerCommanded p s).1.build = s.build := by simp [steerCommanded]
  have hfed := pllFeedback_pllAcc (s := (steerCommanded p s).1) (slew := (steerSlewed p s).2) (steerCommanded p s).2
    (steerDither p s) (by rwa [hbuild]) (by rwa [hkept]) (by rw [hacc, hexact, hkept]; rfl)
  rwa [hbuild, hkept] at hfed

theorem steerFedBack_fllAcc_lt (p : Int) :
    (steerFedBack p s).cd.fllAcc.toInt.natAbs < s.build.factorLimit * s.build.fllSmoothing := by
  obtain ⟨hdivisor, hlimit⟩ := fllDivisor_bounds hlegal h
  obtain ⟨-, hfactorlimit⟩ := Build.factorLimit_bounds hfits
  have hrange : s.build.factorLimit * s.build.fllSmoothing ≤ 2 ^ 16 * 2 ^ 32 :=
    Nat.mul_le_mul (by omega) (Build.fllSmoothing_le hfits)
  rw [steerFedBack_fllAcc]
  split
  · exact (fllUpdate_fllAcc (s := (steerSlewed p s).1) p hdivisor (hlimit.trans hrange)).trans_le hlimit
  · exact hbounded.fllAcc

/-- Just before the lock evaluation every register of the discipline is within its range. -/
theorem steerBooked_bounded (hp : p.natAbs ≤ s.build.resyncPhaseNs) :
    DisciplineBounded s.build (steerBooked p s).cd := by
  obtain ⟨hfiltQ, -⟩ := lowPass_bounded hlegal hfits hbounded hp
  have hphase := Build.resyncPhaseNs_le hfits
  have htrim := Build.trimRange_le hfits
  have hpll := steerFedBack_pllAcc hlegal hfits h hbounded hp
  have hpllrange : (s.build.pllCarryMax + 1) * s.cd.pllFactor.toNat ≤ (s.build.pllCarryMax + 1) * s.build.factorLimit :=
    Nat.mul_le_mul_left _ (h.discipline.pllHigh.trans h.config.pllMax)
  have hfll := steerFedBack_fllAcc_lt hlegal hfits h hbounded p
  have hrealized := cdCommand_realized_le
    ((steerSlewed p s).2 + (steerLearned p s).cd.fllRate.toInt + steerDither p s) (steerLearned p s)
  have hbuild : (steerLearned p s).build = s.build := by simp
  change (steerCommanded p s).2.natAbs ≤ _ at hrealized
  rw [hbuild] at hrealized
  obtain ⟨head, count, hbooked⟩ := bookkeeping_cd p (lowPass p s).2 (steerDither p s)
    (ramps (lowPass p s).2 (fllActive s) (steerFedBack p s))
  obtain ⟨hfilt, -, -⟩ := steerFedBack_filter p s
  rw [steerBooked, hbooked, ramps_cd]
  refine ⟨fun _ => ?prev, nofun, fun _ => ?filt, hpll.trans_le hpllrange, hfll, ?realized⟩ <;> dsimp only
  case prev => rw [toInt_ofInt32 (by omega) (by omega)]; exact hp
  case filt => rw [hfilt]; exact hfiltQ
  case realized =>
    rw [steerFedBack_realizedLast, toInt_ofInt64 (by omega) (by omega)]
    exact hrealized

end

theorem steer_bounded (hlegal : s.build.legal = true) (hfits : s.build.fits = true) (h : s.PreInv) (hb : s.Bounded)
    (hp : p.natAbs ≤ s.build.resyncPhaseNs) : (steer p s).Bounded := by
  rw [steer_eq_stages]
  exact lockEvaluation_bounded _
    (hb.of_discipline (by simp) (by simp) (steerBooked_bounded hlegal hfits h hb.discipline hp))

theorem countSkipped_bounded (h : s.Bounded) : (countSkipped s).Bounded :=
  h.of_discipline rfl rfl (h.discipline.of_unranged _ _ _ _ _ _ _)

theorem jumpFilter_bounded (p : Int) (h : s.Bounded) : (jumpFilter p s).1.Bounded := by
  obtain ⟨counter, subs, hcd⟩ := jumpFilter_cd p s
  refine h.of_discipline (by simp) (by simp) ?_
  rw [hcd]
  exact h.discipline.of_unranged _ _ _ _ _ _ _

/-- A resync resets the discipline and reports both locks lost (R145). -/
theorem resync_bounded (h : s.Bounded) : (resync s).Bounded := by
  have hreset := disciplineReset_bounded h.discipline .resync (s.emit .forceResync)
  exact hmUpdate_withHm_bounded _ (hmUpdate_withHm_bounded _
    (h.of_discipline rfl rfl (hreset.of_unranged _ _ _ _ _ _ _)))

/-- A step that steers has passed the test of R145. -/
theorem cdStep_cases_needsResync {v : Bool} {r : State × Bool} (h : cdStep p v s = .ok r) :
    r = (countSkipped s, false) ∨ r = (resync (jumpFilter p s).1, true) ∨
      (needsResync (jumpFilter p s).1 (jumpFilter p s).2 = false ∧
        r = (steer (jumpFilter p s).2 (jumpFilter p s).1, true)) := by
  unfold cdStep at h
  dsimp only at h
  split at h
  · split at h
    · cases h; exact .inr (.inl rfl)
    · next haccepted =>
      split at h
      · cases h
      · cases h; exact .inr (.inr ⟨Bool.eq_false_of_not_eq_true haccepted, rfl⟩)
  · cases h; exact .inl rfl

/-- A sample that does not resync lies within RESYNC_PHASE_NS (R145). -/
theorem natAbs_le_of_needsResync (h : needsResync s p = false) : p.natAbs ≤ s.build.resyncPhaseNs := by
  simp only [needsResync, Bool.or_eq_false_iff, decide_eq_false_iff_not] at h
  omega

theorem cdStep_bounded {v : Bool} {r : State × Bool} (hlegal : s.build.legal = true) (hfits : s.build.fits = true)
    (h : s.Inv) (hb : s.Bounded) (hr : cdStep p v s = .ok r) : r.1.Bounded := by
  have hfiltered := jumpFilter_bounded p hb
  obtain rfl | rfl | ⟨haccepted, rfl⟩ := cdStep_cases_needsResync hr <;> dsimp only
  · exact countSkipped_bounded hb
  · exact resync_bounded hfiltered
  · exact steer_bounded (by simpa using hlegal) (by simpa using hfits) (jumpFilter_preInv p hlegal h.preInv) hfiltered
      (natAbs_le_of_needsResync haccepted)

theorem tickStep_bounded {r : State × Bool} (hlegal : s.build.legal = true) (hfits : s.build.fits = true) (h : s.Inv)
    (hb : s.Bounded) (hr : tickStep s = .ok r) : r.1.Bounded := by
  obtain hr | hr := tickStep_cases hr
  · rw [hr]; exact countSkipped_bounded hb
  · exact cdStep_bounded hlegal hfits h hb hr

/-! ## The pending sample (R76, R141) -/

/-- PPS_CAPTURE leaves a folded phase as the pending sample (R141). -/
theorem exec_ppsCapture_bounded {tick : Nat} (hfits : s.build.fits = true) (h : s.Inv) (hb : s.Bounded)
    (ht : exec (.ppsCapture tick) s = .next t) : t.Bounded := by
  simp only [exec, execPpsCapture] at ht
  split at ht
  · cases ht; exact hb.congr rfl rfl rfl
  · next htick =>
    have hphase := tbTick_bounds (s := s) (Nat.lt_of_not_le htick) (h.fudge.trans (Build.phaseFudgeLimit_le hfits))
    have hcounted : (if s.sys.pendingValid then countSkipped s.start else s.start).Bounded := by
      split
      · exact countSkipped_bounded (hb.congr rfl rfl rfl)
      · exact hb.congr rfl rfl rfl
    cases ht
    refine (State.bounded_iff _).mpr ⟨hcounted.discipline, ?_⟩
    change (BitVec.ofInt 32 (tbTick s tick)).toInt.natAbs ≤ 500000000
    rw [toInt_ofInt32 (by omega) (by omega)]
    omega

/-! ## Every command and every step -/

/-- A dispatched frame writes the date and GpsDecoder, and ends in a setter at most (R111). -/
theorem dispatch_bounded (n : Nat) (h : s.Bounded) : (dispatch n s).1.Bounded := by
  obtain ⟨-, gd, ht⟩ | ⟨-, x, tb, gd, ht⟩ := dispatch_cases (Prod.mk.eta (p := dispatch n s)).symm <;> rw [ht]
  · exact h.congr rfl rfl rfl
  · exact hmUpdate_withHm_bounded _ (h.congr rfl rfl rfl)

theorem gdFeed_bounded {b : Byte} {r : State × FeedEvent} (h : s.Bounded) (hr : gdFeed b s = .ok r) :
    r.1.Bounded := by
  have hfed := gdFeed_fedFrom b s
  rw [hr] at hfed
  obtain ⟨u, ⟨-, -, hcd, hsys, -, -, hbuild, -⟩, -, hres⟩ := hfed
  have hu : u.Bounded := h.congr hbuild hcd hsys
  obtain rfl | ⟨n, rfl⟩ := hres
  · exact hu
  · exact dispatch_bounded n hu

/-- CFG_WRITE writes factors and the learned rate only, which have no range of their own (R167). -/
theorem cfgSet_bounded {reg value : Nat} {v : Int} (h : s.Bounded) (hset : cfgSet reg value s = some (u, v)) :
    u.Bounded := by
  unfold cfgSet at hset
  dsimp only at hset
  split at hset <;> cases hset <;> exact h.of_discipline rfl rfl (h.discipline.of_unranged _ _ _ _ _ _ _)

/-- PPS_CAPTURE is `exec_ppsCapture_bounded`: its effect alone does not say which sample it leaves. -/
theorem effect_bounded {i : Instr} (hcapture : ∀ tick, i ≠ .ppsCapture tick) (hlegal : s.build.legal = true)
    (hfits : s.build.fits = true) (h : s.Inv) (hb : s.Bounded) (hu : CommandEffect i s u) : u.Bounded := by
  cases i with
  | nop | tbTickToNs | tbToNtp | tbToUnix | tbGetDate | hmShouldRun | hmGetStatus | readReg | readPb =>
    cases hu
    exact hb
  | reset =>
    have hreset : (blockReset s).Bounded := (State.powerOn_bounded hlegal hfits).congr rfl rfl rfl
    simp only [CommandEffect] at hu
    split at hu <;> subst hu
    · exact hreset.congr rfl rfl rfl
    · exact hreset
  | secondTick =>
    have hinv := hmAge_tbAdvance_inv hlegal hfits h
    have haged : (hmAge (tbAdvance s)).Bounded := hmUpdate_withHm_bounded _ (hb.congr (by simp) (by simp) (by simp))
    simp only [CommandEffect] at hu
    split at hu
    · obtain ⟨r, hr, rfl⟩ := hu
      have hran := tickStep_bounded (by simpa using hlegal) (by simpa using hfits) hinv haged hr
      exact (State.bounded_iff _).mpr ⟨hran.discipline, hran.sample⟩
    · exact hu ▸ haged
  | ppsCapture tick => exact absurd rfl (hcapture tick)
  | gpsFeed byte => obtain ⟨r, hr, rfl⟩ := hu; exact gdFeed_bounded hb hr
  | tbSetDate week off tow => obtain ⟨-, rfl⟩ := hu; exact hb.congr (by simp) (by simp) (by simp)
  | tbAdvance | hmResetGpsWdt | hmResetFllWdt => cases hu; exact hb.congr (by simp) (by simp) (by simp)
  | hmSetOsc code | hmSetPll code | hmSetFll code => obtain ⟨x, -, rfl⟩ := hu; exact hmUpdate_withHm_bounded _ hb
  | hmSetGps code => obtain ⟨x, rfl⟩ := hu; exact hmUpdate_withHm_bounded _ hb
  | hmUpdate => exact hu ▸ hmUpdate_bounded hb
  | cdEnterHoldover => exact hu ▸ hb.of_discipline (by simp) (by simp) (disciplineReset_bounded hb.discipline _ _)
  | cdLeaveHoldover duration => exact hu ▸ hb.of_discipline rfl rfl (hb.discipline.of_unranged _ _ _ _ _ _ _)
  | cdStep phase gpsValid => obtain ⟨r, hr, rfl⟩ := hu; exact cdStep_bounded hlegal hfits h hb hr
  | cfgWrite reg value => obtain ⟨v, hset⟩ := hu; exact cfgSet_bounded hb hset

theorem exec_bounded {i : Instr} (hlegal : s.build.legal = true) (hfits : s.build.fits = true) (h : s.Inv)
    (hb : s.Bounded) (ht : exec i s = .next t) : t.Bounded := by
  by_cases hcapture : ∃ tick, i = .ppsCapture tick
  · obtain ⟨tick, rfl⟩ := hcapture
    exact exec_ppsCapture_bounded hfits h hb ht
  · have hstart : s.start.Inv := h.congr rfl rfl rfl rfl rfl rfl rfl rfl
    obtain rfl | ⟨u, r0, r1, hu, rfl⟩ := exec_effect ht
    · exact hb.congr rfl rfl rfl
    · exact (effect_bounded (fun tick hi => hcapture ⟨tick, hi⟩) (by exact hlegal) (by exact hfits) hstart
        (hb.congr rfl rfl rfl) hu).congr rfl rfl rfl

/-- Settles O13: a step that answers a next state waits, rejects a reserved opcode, or runs a command, and each of them
keeps the ranges. -/
theorem stepKeepsRanges : Obligations.StepKeepsRanges := by
  intro s t hfits h hb hstep
  cases hlegal : s.build.legal with
  | false => rw [step_of_illegal hlegal] at hstep; cases hstep
  | true =>
    cases hpending : s.pending with
    | nil =>
      rw [step_of_no_pending hlegal hpending] at hstep
      cases hstep
      exact hb
    | cons q rest =>
      have haccept : (s.accept q rest).Inv := h.congr rfl rfl rfl rfl rfl rfl rfl rfl
      have hbounded : (s.accept q rest).Bounded := hb.congr rfl rfl rfl
      cases hdecode : decode q.word with
      | ok i =>
        rw [step_of_decode_ok hlegal hpending hdecode] at hstep
        exact exec_bounded (by exact hlegal) (by exact hfits) haccept hbounded hstep
      | error e =>
        obtain ⟨op⟩ := e
        rw [step_of_decode_reserved hlegal hpending hdecode] at hstep
        cases hstep
        exact hbounded.congr rfl rfl rfl

end Sys2Proof.Machine

/-! SUPPORT. What an update does on its way into HOLDOVER and out of it (R125 to R127), and the factors after a step that
accepted a sample: raised by their ramps (R153), then annealed where the lock evaluation leaves HOLDOVER for OK (R155,
R157). -/

namespace Sys2Proof.Machine

variable {s t : State}

/-! ## Entering HOLDOVER (R127) -/

/-- Settles O25: the first row of the table, with the side effects that HM.update's laws state. -/
theorem enteringHoldover : Obligations.EnteringHoldover := by
  intro s hweek hsystem hgps hfll
  have htarget : updateTarget s.start = .holdover := by simp [updateTarget, nextSystem, hsystem, hgps, hfll]
  have hentered : SystemStatus.holdover ≠ s.start.hm.system := by simp [hsystem]
  have hstart := (wrap64_tbToUnix (s := s.start) hweek).trans (tbToUnix_eq s.start)
  refine ⟨_, _, rfl, rfl, ?_⟩
  simp only [State.answer_hm, State.answer_cd, State.answer_events, State.answer_oscIdx]
  rw [hmUpdate_hm, hmUpdate_cd, hmUpdate_events, hmUpdate_oscIdx, htarget]
  simp only [hentered, hentered.symm, ne_eq, not_false_eq_true, and_self, if_true, if_false]
  refine ⟨trivial, hstart, rfl, rfl, trivial, trivial, rfl, ?_⟩
  simp [State.KeepsStores, State.KeepsHost]

/-! ## Leaving HOLDOVER (R126, R155) -/

/-- From HOLDOVER the update goes to OK exactly with Fll not lost and the others good (R125 rows 3 to 5). -/
theorem nextSystem_holdover_eq_ok (osc gps pll fll : SubStatus) : nextSystem .holdover osc gps pll fll = .ok ↔
    fll ≠ .unlock ∧ pll = .ok ∧ gps = .ok ∧ osc = .ok := by
  cases osc <;> cases gps <;> cases pll <;> cases fll <;> decide

/-- Unless the system is in OK with Gps lost, an update anneals the factors on the way from HOLDOVER to OK, and leaves
ClockDiscipline otherwise (R125 to R128). -/
theorem hmUpdate_cd_of_gpsNotLost (h : GpsNotLost s.hm) : (hmUpdate s).cd =
    if s.hm.system = .holdover ∧ updateTarget s = .ok then (cdLeaveHoldover (holdoverDuration s) s).cd else s.cd := by
  rw [hmUpdate_cd]
  cases htarget : updateTarget s with
  | unlock => simp
  | ok => cases hsystem : s.hm.system <;> simp
  | holdover =>
    have hstays : s.hm.system = .holdover := by
      obtain ⟨hstays, -⟩ | ⟨hok, hgps, -⟩ := nextSystem_holdover htarget
      · exact hstays
      · exact absurd hgps (h hok)
    simp [hstays]

theorem setPllStatus_cd (x : SubStatus) (h : GpsNotLost s.hm) : (setPllStatus x s).cd =
    if s.hm.system = .holdover ∧ nextSystem s.hm.system s.hm.osc s.hm.gps x s.hm.fll = .ok then
      (cdLeaveHoldover (holdoverDuration s) s).cd
    else s.cd :=
  hmUpdate_cd_of_gpsNotLost (s := s.withHm { s.hm with pll := x }) h

theorem setFllStatus_cd (x : SubStatus) (h : GpsNotLost s.hm) : (setFllStatus x s).cd =
    if s.hm.system = .holdover ∧ nextSystem s.hm.system s.hm.osc s.hm.gps s.hm.pll x = .ok then
      (cdLeaveHoldover (holdoverDuration s) s).cd
    else s.cd :=
  hmUpdate_cd_of_gpsNotLost (s := s.withHm { s.hm with fll := x, fllWdt := if x = .ok then 0 else s.hm.fllWdt }) h

/-- `HM.set_pll_status` on the statuses (R123). -/
theorem setPllStatus_hm (x : SubStatus) (s : State) :
    (setPllStatus x s).hm.system = nextSystem s.hm.system s.hm.osc s.hm.gps x s.hm.fll ∧
      (setPllStatus x s).hm.osc = s.hm.osc ∧ (setPllStatus x s).hm.gps = s.hm.gps ∧
      (setPllStatus x s).hm.pll = x ∧ (setPllStatus x s).hm.fll = s.hm.fll := by
  simp [setPllStatus, hmUpdate_hm, updateTarget]

/-- The Fll setter that follows the Pll setter does not leave HOLDOVER for OK: the Pll setter has done so, or has found
Fll lost and gone to UNLOCK (R125, R155). -/
theorem setFllStatus_setPllStatus_cd (x y : SubStatus) (s : State) :
    (setFllStatus y (setPllStatus x s)).cd = (setPllStatus x s).cd := by
  obtain ⟨hsystem, hosc, hgps, hpll, -⟩ := setPllStatus_hm x s
  rw [setFllStatus_cd (s := setPllStatus x s) y (hmUpdate_gpsNotLost _), if_neg]
  rintro ⟨hholdover, htarget⟩
  rw [hholdover, hosc, hgps, hpll, nextSystem_holdover_eq_ok] at htarget
  obtain ⟨-, hx, hg, ho⟩ := htarget
  rw [hsystem] at hholdover
  obtain ⟨hbefore, hfll, -⟩ | ⟨-, hunlock, -⟩ := nextSystem_holdover hholdover
  · rw [hbefore, (nextSystem_holdover_eq_ok _ _ _ _).mpr ⟨hfll, hx, hg, ho⟩] at hholdover
    cases hholdover
  · rw [hg] at hunlock
    cases hunlock

/-- The state in which the lock evaluation runs its setters: with Pll locked, the reference time is latched (R155). -/
def lockLatched (f : Int) (s : State) : State :=
  if pllLocked f s then s.withHm { s.hm with reftime := tbToNtp s 0 0 } else s

/-- Both tests are made before either setter runs (R155). -/
theorem lockEvaluation_eq (f : Int) (s : State) : lockEvaluation f s =
    setFllStatus (lockStatus (fllLocked s)) (setPllStatus (lockStatus (pllLocked f s)) (lockLatched f s)) := rfl

theorem lockLatched_eq_withHm (f : Int) (s : State) : ∃ reftime,
    lockLatched f s = s.withHm { s.hm with reftime := reftime } := by
  unfold lockLatched
  split
  · exact ⟨_, rfl⟩
  · exact ⟨s.hm.reftime, rfl⟩

theorem lockEvaluation_pll (f : Int) (s : State) : (lockEvaluation f s).hm.pll = lockStatus (pllLocked f s) := by
  simp [lockEvaluation_eq, setFllStatus, hmUpdate_hm, setPllStatus_hm]

/-- The lock evaluation anneals the factors where it leaves HOLDOVER for OK, and leaves ClockDiscipline otherwise (R155,
R157). -/
theorem lockEvaluation_cd (f : Int) (h : GpsNotLost s.hm) :
    (s.AnnealsInStep (lockEvaluation f s) →
      (lockEvaluation f s).cd = (cdLeaveHoldover (holdoverDuration s) s).cd) ∧
    (¬ s.AnnealsInStep (lockEvaluation f s) → (lockEvaluation f s).cd = s.cd) := by
  obtain ⟨reftime, hlatched⟩ := lockLatched_eq_withHm f s
  unfold State.AnnealsInStep
  rw [lockEvaluation_pll, lockEvaluation_eq, setFllStatus_setPllStatus_cd, hlatched]
  have hpll := setPllStatus_cd (s := s.withHm { s.hm with reftime := reftime }) (lockStatus (pllLocked f s)) h
  constructor
  · rintro ⟨hsystem, hfll, hgps, hosc, hlocked⟩
    have htarget : nextSystem s.hm.system s.hm.osc s.hm.gps (lockStatus (pllLocked f s)) s.hm.fll = .ok := by
      rw [hsystem, nextSystem_holdover_eq_ok]
      exact ⟨hfll, hlocked, hgps, hosc⟩
    exact hpll.trans (if_pos ⟨hsystem, htarget⟩)
  · intro hstays
    refine hpll.trans (if_neg ?_)
    rintro ⟨hsystem, htarget⟩
    change s.hm.system = .holdover at hsystem
    change nextSystem s.hm.system s.hm.osc s.hm.gps (lockStatus (pllLocked f s)) s.hm.fll = .ok at htarget
    rw [hsystem, nextSystem_holdover_eq_ok] at htarget
    obtain ⟨hfll, hlocked, hgps, hosc⟩ := htarget
    exact hstays ⟨hsystem, hfll, hgps, hosc, hlocked⟩

/-! ## The ramps (R153) -/

section
variable {interval : Nat} {ramp : Word}

theorem rampAfter_of_lt (h : min (ramp.toNat + 1) (2 ^ 32 - 1) < interval) :
    (rampAfter interval ramp).toNat = min (ramp.toNat + 1) (2 ^ 32 - 1) := by
  rw [rampAfter, satInc32_toNat, if_neg (Nat.not_le.mpr h), satInc32_toNat]

theorem rampAfter_of_le (h : interval ≤ min (ramp.toNat + 1) (2 ^ 32 - 1)) : rampAfter interval ramp = 0 := by
  rw [rampAfter, satInc32_toNat, if_pos h]

theorem factorAfter_of_lt (factor top : Half) (h : min (ramp.toNat + 1) (2 ^ 32 - 1) < interval) :
    factorAfter interval ramp factor top = factor := by
  rw [factorAfter, satInc32_toNat, if_neg (Nat.not_le.mpr h)]

theorem factorAfter_of_le (factor top : Half) (h : interval ≤ min (ramp.toNat + 1) (2 ^ 32 - 1)) :
    (factorAfter interval ramp factor top).toNat = min (factor.toNat + 1) top.toNat := by
  have := top.isLt
  rw [factorAfter, satInc32_toNat, if_pos h, raiseFactor, BitVec.toNat_ofNat]
  omega

/-- A ramp that counts under the condition `c` and otherwise holds `idle`, with its factor: below its interval, at it,
and idle. -/
theorem ramp_cases {c : Prop} [Decidable c] {idle ramp' : Word} {factor top factor' : Half}
    (hramp : ramp' = if c then rampAfter interval ramp else idle)
    (hfactor : factor' = if c then factorAfter interval ramp factor top else factor) :
    (c → min (ramp.toNat + 1) (2 ^ 32 - 1) < interval →
      ramp'.toNat = min (ramp.toNat + 1) (2 ^ 32 - 1) ∧ factor' = factor) ∧
    (c → interval ≤ min (ramp.toNat + 1) (2 ^ 32 - 1) →
      ramp' = 0 ∧ factor'.toNat = min (factor.toNat + 1) top.toNat) ∧
    (¬ c → ramp' = idle ∧ factor' = factor) := by
  subst hramp hfactor
  refine ⟨fun hc hlt => ?_, fun hc hle => ?_, fun hc => ?_⟩
  · rw [if_pos hc, if_pos hc]
    exact ⟨rampAfter_of_lt hlt, factorAfter_of_lt _ _ hlt⟩
  · rw [if_pos hc, if_pos hc]
    exact ⟨rampAfter_of_le hle, factorAfter_of_le _ _ hle⟩
  · rw [if_neg hc, if_neg hc]
    exact ⟨rfl, rfl⟩

end

/-- The ramps, the factors and the filter output just before the lock evaluation (R147, R153). -/
theorem steerBooked_ramps (p : Int) (s : State) :
    (steerBooked p s).cd.filtered = BitVec.ofInt 32 (lowPass p s).2 ∧
    (steerBooked p s).cd.pllRamp = (if (lowPass p s).2.natAbs ≤ s.build.pllHealthyNs then
      rampAfter s.build.pllRampInterval s.cd.pllRamp else 0) ∧
    (steerBooked p s).cd.pllFactor = (if (lowPass p s).2.natAbs ≤ s.build.pllHealthyNs then
      factorAfter s.build.pllRampInterval s.cd.pllRamp s.cd.pllFactor s.cfg.pllFactorMax else s.cd.pllFactor) ∧
    (steerBooked p s).cd.fllRamp = (if fllActive s then
      rampAfter s.build.fllRampInterval s.cd.fllRamp else s.cd.fllRamp) ∧
    (steerBooked p s).cd.fllFactor = (if fllActive s then
      factorAfter s.build.fllRampInterval s.cd.fllRamp s.cd.fllFactor s.cfg.fllFactorMax else s.cd.fllFactor) := by
  obtain ⟨head, count, hbooked⟩ := bookkeeping_cd p (lowPass p s).2 (steerDither p s)
    (ramps (lowPass p s).2 (fllActive s) (steerFedBack p s))
  obtain ⟨hpll, hfll, hpllramp, hfllramp⟩ := steerFedBack_cd_keeps p s
  obtain ⟨-, -, hfiltered⟩ := steerFedBack_filter p s
  rw [steerBooked, hbooked, ramps_cd]
  simp [hpll, hfll, hpllramp, hfllramp, hfiltered]

/-- CD_STEP with a valid fix that leaves an accepted sample has steered on a sample within RESYNC_PHASE_NS (R143 to
R145). -/
theorem cdStep_steers {p : Int} {r : State × Bool} (h : cdStep p true s = .ok r) (hvalid : r.1.cd.prevValid = true) :
    (jumpFilter p s).2.natAbs ≤ s.build.resyncPhaseNs ∧
      r.1 = steer (jumpFilter p s).2 (jumpFilter p s).1 := by
  have hran := cdStep_ran h
  obtain rfl | rfl | ⟨haccepted, rfl⟩ := cdStep_cases_needsResync h
  · cases hran
  · rw [resync_prevValid] at hvalid; cases hvalid
  · exact ⟨by simpa using natAbs_le_of_needsResync haccepted, rfl⟩

/-- What CD_LEAVE_HOLDOVER makes of the factors depends on them, their minimums and the instance only (R157). -/
theorem cdLeaveHoldover_factors (d : Nat) (hbuild : t.build = s.build) (hcfg : t.cfg = s.cfg)
    (hpll : t.cd.pllFactor = s.cd.pllFactor) (hfll : t.cd.fllFactor = s.cd.fllFactor) :
    (cdLeaveHoldover d t).cd.pllFactor = (cdLeaveHoldover d s).cd.pllFactor ∧
      (cdLeaveHoldover d t).cd.fllFactor = (cdLeaveHoldover d s).cd.fllFactor := by
  simp only [cdLeaveHoldover, State.withCd_cd, hbuild, hcfg, hpll, hfll, and_self]

/-- The duration handed on is the time since HM.holdover_start, between 0 and 2^32 - 1 (R126). -/
theorem holdoverDuration_eq (s : State) : (holdoverDuration s : Int) =
    min (max 0 (315964800 + s.tb.week.toNat * s.build.weekSeconds + s.tb.tow.toNat - s.hm.holdoverStart.toInt))
      (2 ^ 32 - 1) := by
  rw [holdoverDuration, tbToUnix_eq]
  exact Int.toNat_of_nonneg (by omega)

/-- A steering step in terms of the state just before its lock evaluation, whose factors are those after the ramps. -/
theorem steer_factors {p : Int} (h : GpsNotLost s.hm) :
    (steer p s).cd.filtered = (steerBooked p s).cd.filtered ∧
    (steer p s).cd.pllRamp = (steerBooked p s).cd.pllRamp ∧ (steer p s).cd.fllRamp = (steerBooked p s).cd.fllRamp ∧
    (¬ s.AnnealsInStep (steer p s) → (steer p s).cd.pllFactor = (steerBooked p s).cd.pllFactor ∧
      (steer p s).cd.fllFactor = (steerBooked p s).cd.fllFactor) ∧
    (s.AnnealsInStep (steer p s) →
      (steer p s).cd = (cdLeaveHoldover (holdoverDuration (steerBooked p s)) (steerBooked p s)).cd) := by
  have hhm : (steerBooked p s).hm = s.hm := by simp
  obtain ⟨hanneals, hstays⟩ := lockEvaluation_cd (s := steerBooked p s) (lowPass p s).2 (by rwa [hhm])
  unfold State.AnnealsInStep at hanneals hstays ⊢
  rw [hhm] at hanneals hstays
  rw [← steer_eq_stages] at hanneals hstays
  by_cases ha : s.AnnealsInStep (steer p s)
  · exact ⟨by rw [hanneals ha]; rfl, by rw [hanneals ha]; rfl, by rw [hanneals ha]; rfl, fun hno => absurd ha hno,
      hanneals⟩
  · rw [hstays ha]
    exact ⟨rfl, rfl, rfl, fun _ => ⟨rfl, rfl⟩, fun hyes => absurd hyes ha⟩

/-- The step of CD_STEP that accepted a sample, in terms of the state `u` just before its lock evaluation: the ramps and
the factors of `u` are those of R153, and the factors hold after the step unless the lock evaluation anneals them. -/
theorem cdStep_ramps {p : Int} {r : State × Bool} (hlegal : s.build.legal = true) (hfits : s.build.fits = true)
    (h : s.Inv) (hb : s.Bounded) (hr : cdStep p true s = .ok r) (hvalid : r.1.cd.prevValid = true) :
    ∃ u : State, u.tb = s.tb ∧ u.hm = s.hm ∧ u.cfg = s.cfg ∧ u.build = s.build ∧
      r.1.cd.pllRamp = (if r.1.cd.filtered.toInt.natAbs ≤ s.build.pllHealthyNs then
        rampAfter s.build.pllRampInterval s.cd.pllRamp else 0) ∧
      u.cd.pllFactor = (if r.1.cd.filtered.toInt.natAbs ≤ s.build.pllHealthyNs then
        factorAfter s.build.pllRampInterval s.cd.pllRamp s.cd.pllFactor s.cfg.pllFactorMax else s.cd.pllFactor) ∧
      r.1.cd.fllRamp = (if s.build.fllSettleS ≤ s.cd.secondsSinceReset.toNat then
        rampAfter s.build.fllRampInterval s.cd.fllRamp else s.cd.fllRamp) ∧
      u.cd.fllFactor = (if s.build.fllSettleS ≤ s.cd.secondsSinceReset.toNat then
        factorAfter s.build.fllRampInterval s.cd.fllRamp s.cd.fllFactor s.cfg.fllFactorMax else s.cd.fllFactor) ∧
      (¬ s.AnnealsInStep r.1 → r.1.cd.pllFactor = u.cd.pllFactor ∧ r.1.cd.fllFactor = u.cd.fllFactor) ∧
      (s.AnnealsInStep r.1 → r.1.cd = (cdLeaveHoldover (holdoverDuration u) u).cd) := by
  obtain ⟨hphase, hsteer⟩ := cdStep_steers hr hvalid
  obtain ⟨counter, subs, hcd⟩ := jumpFilter_cd p s
  have hbounded := (jumpFilter_bounded p hb).discipline
  have hkeeps := jumpFilter_keeps s p
  generalize jumpFilter p s = j at hphase hsteer hcd hbounded hkeeps
  obtain ⟨v, a⟩ := j
  dsimp only at hphase hsteer hcd hbounded hkeeps
  obtain ⟨htb, -, hhm, -, hcfg, -, -, hbuild, -⟩ := hkeeps
  rw [hsteer]
  have hranges := Build.resyncPhaseNs_le hfits
  obtain ⟨-, hf⟩ := lowPass_bounded (s := v) (p := a) (by rwa [hbuild]) (by rwa [hbuild]) hbounded (by rwa [hbuild])
  rw [hbuild] at hf
  obtain ⟨hfiltered, hpllRamp, hpllFactor, hfllRamp, hfllFactor⟩ := steerBooked_ramps a v
  obtain ⟨hfiltered', hpllRamp', hfllRamp', hstays, hanneals⟩ := steer_factors (s := v) (p := a)
    (by rw [hhm]; exact h.gpsNotLost)
  have hout : (steer a v).cd.filtered.toInt = (lowPass a v).2 := by
    rw [hfiltered', hfiltered, toInt_ofInt32 (by omega) (by omega)]
  have hactive : fllActive v = true ↔ s.build.fllSettleS ≤ s.cd.secondsSinceReset.toNat := by
    simp [fllActive, hbuild, hcd]
  simp only [hbuild, hcfg, hcd, hactive] at hpllRamp hpllFactor hfllRamp hfllFactor
  unfold State.AnnealsInStep at hstays hanneals ⊢
  rw [hhm] at hstays hanneals
  rw [hout]
  exact ⟨steerBooked a v, by simp [htb], by simp [hhm], by simp [hcfg], by simp [hbuild], hpllRamp'.trans hpllRamp,
    hpllFactor, hfllRamp'.trans hfllRamp, hfllFactor, hstays, hanneals⟩

/-- Settles O43: the factors after the ramps are those of the state just before the lock evaluation. -/
theorem rampsRaiseFactors : Obligations.RampsRaiseFactors := by
  intro s t p pr fr hlegal hfits h hb _ _ hexec hvalid hpr hfr
  subst hpr hfr
  obtain ⟨r, hr, rfl⟩ := exec_cdStep_next hexec
  obtain ⟨u, htb, hhm, hcfg, hbuild, hpllRamp, hpllFactor, hfllRamp, hfllFactor, hstays, hanneals⟩ :=
    cdStep_ramps (s := s.start) hlegal hfits (h.congr rfl rfl rfl rfl rfl rfl rfl rfl) (hb.congr rfl rfl rfl) hr hvalid
  obtain ⟨hpllBelow, hpllReached, hpllIdle⟩ := ramp_cases hpllRamp hpllFactor
  obtain ⟨hfllBelow, hfllReached, hfllIdle⟩ := ramp_cases hfllRamp hfllFactor
  refine ⟨u.cd.pllFactor, u.cd.fllFactor, hpllBelow, hpllReached, fun hunhealthy => hpllIdle (Nat.not_le.mpr hunhealthy),
    fun hsettling => hfllIdle (Nat.not_le.mpr hsettling), hfllBelow, hfllReached, hstays, fun hyes => ?anneals⟩
  case anneals =>
    have hduration := holdoverDuration_eq u
    rw [htb, hhm, hbuild] at hduration
    rw [State.answer_cd, hanneals hyes]
    exact ⟨_, _, hduration, rfl, cdLeaveHoldover_factors _ hbuild hcfg rfl rfl⟩

end Sys2Proof.Machine

/-! SUPPORT. Over-length frames: a declared length that PB cannot hold is drained byte by byte (R92, R96, R105, R108),
and the bytes of a TSIP packet beyond the capacity are discarded until its DLE ETX (R99 to R101). -/

namespace Sys2Proof.Machine

variable {s : State} {g : GpsDecoder} {p : Memory}

/-! ## A declared length that is drained: SIRF and UBX (R92, R96, R105, R108) -/

/-- A declared length that PB cannot hold. -/
theorem takeLength_fed_tooBig {n tail : Nat} {drainCode cksCode code : Byte} (hover : s.build.maxPayload < n) :
    takeLength n tail drainCode cksCode code (s.fed g p) =
      s.fed { g with
        state := drainCode, len := BitVec.ofNat 16 n, idx := 0, drain := BitVec.ofNat 32 (n + tail),
        tooBig := g.tooBig + 1 } p := by
  unfold takeLength
  dsimp only
  rw [State.fed_build, if_pos hover]
  rfl

/-- One drained byte: the count goes down by one, and the last one ends the frame. -/
theorem drainByte_fed : drainByte (s.fed g p) =
    s.fed { g with drain := g.drain - 1, state := if g.drain - 1 = 0 then 0 else g.state } p := by
  unfold drainByte
  dsimp only [State.fed_gd]
  split <;> rfl

/-- In a machine whose state `code` drains, as many bytes as GD.drain says are dropped, whatever they are, and the
machine is back in state 0. -/
theorem feeds_drain {code : Byte} {bytes : List Byte}
    (hdrain : ∀ (b : Byte) (g : GpsDecoder), g.state = code → gdFeed b (s.fed g p) = quiet (drainByte (s.fed g p)))
    (hstate : g.state = code) (hleft : g.drain.toNat = bytes.length) (hne : bytes ≠ []) :
    s.Feeds bytes g { g with state := 0, drain := 0 } p p := by
  induction bytes generalizing g with
  | nil => exact absurd rfl hne
  | cons b rest ih =>
    rw [List.length_cons] at hleft
    have hdrained : (g.drain - 1).toNat = rest.length := by
      have := g.drain.isLt
      bv_omega
    have hlast : g.drain - 1 = 0 ↔ rest = [] := by
      rw [← List.length_eq_zero_iff, ← hdrained, ← BitVec.toNat_inj]
      rfl
    refine .cons ((hdrain b g hstate).trans (congrArg quiet drainByte_fed)) ?_
    by_cases hrest : rest = []
    · subst hrest
      rw [if_pos (hlast.mpr rfl), hlast.mpr rfl]
      exact .nil
    · rw [if_neg (mt hlast.mp hrest)]
      exact ih (g := { g with drain := g.drain - 1 }) hstate hdrained hrest

/-- A run that moves the framing registers alone, from a state as the host finds it. -/
theorem State.Feeds.feedAll_keepsStores {bytes : List Byte} {gd : GpsDecoder} (h : s.Feeds bytes s.gd gd s.pb s.pb)
    (hne : bytes ≠ []) :
    ∃ t, feedAll bytes s = .next t ∧ t.gd = gd ∧ t.tb = s.tb ∧ t.hm = s.hm ∧ t.cd = s.cd ∧ t.sys = s.sys ∧
      t.cfg = s.cfg ∧ s.KeepsStores t ∧ t.events = [] ∧ s.KeepsHost t :=
  ⟨_, h.feedAll_eq hne, rfl, rfl, rfl, rfl, rfl, rfl, s.fed_keepsStores gd, rfl, rfl, rfl, rfl, rfl⟩

/-- The header of a SIRF frame but for the low byte of its length (R90 to R92). -/
theorem feeds_sirf_lengthHigh (hi : Byte) (hp : s.build.protocol = .sirf) (hstate : g.state = 0) :
    s.Feeds [0xA0, 0xA2, hi] g
      { g with state := SirfState.len2.code, len := BitVec.ofNat 16 (2 ^ 8 * (hi.toNat % 2 ^ 7)) } p p := by
  refine .cons (g' := { g with state := SirfState.sync2.code }) (p' := p) ?sync1 <|
    .cons (g' := { g with state := SirfState.len1.code }) (p' := p) (gdFeed_sirf hp (st := .sync2) rfl _) <|
    .cons (gdFeed_sirf hp (st := .len1) rfl _) .nil
  rw [gdFeed_sirf hp (st := .sync1) (by rw [hstate]; rfl)]; rfl

/-- A SIRF frame that declares more than MAX_PAYLOAD bytes, whatever bytes follow its header. -/
theorem feeds_sirf_tooBig {n top : Nat} {rest : List Byte} (hp : s.build.protocol = .sirf) (hstate : g.state = 0)
    (hover : s.build.maxPayload < n) (hn : n < 2 ^ 15) (htop : top = 0 ∨ top = 2 ^ 15) (hrest : rest.length = n + 4) :
    s.Feeds ([0xA0, 0xA2] ++ bigEndian16 (top + n) ++ rest) g
      { g with state := 0, len := BitVec.ofNat 16 n, idx := 0, drain := 0, tooBig := g.tooBig + 1 } p p := by
  refine (feeds_sirf_lengthHigh _ hp hstate).append (.cons (g' := { g with
      state := SirfState.drain.code, len := BitVec.ofNat 16 n, idx := 0, drain := BitVec.ofNat 32 (n + 4),
      tooBig := g.tooBig + 1 }) (p' := p) ?len2 ?drain)
  case len2 =>
    rw [gdFeed_sirf hp (st := .len2) rfl, sirfByte, State.fed_gd, sirf_declared_length hn htop,
      takeLength_fed_tooBig hover]
  case drain =>
    exact feeds_drain (fun _ _ hst => gdFeed_sirf hp (st := .drain) (by rw [hst]; rfl) _) rfl
      ((Nat.mod_eq_of_lt (by omega)).trans hrest.symm) (List.ne_nil_of_length_pos (by omega : 0 < rest.length))

/-- The header of a UBX frame but for the high byte of its length (R102 to R105). -/
theorem feeds_ubx_lengthLow (cls ident lo : Byte) (hp : s.build.protocol = .ubx) (hstate : g.state = 0) :
    s.Feeds [0xB5, 0x62, cls, ident, lo] g
      { g with state := UbxState.len2.code, cls := cls, id := ident, len := BitVec.ofNat 16 lo.toNat } p p := by
  refine .cons (g' := { g with state := UbxState.sync2.code }) (p' := p) ?sync1 <|
    .cons (g' := { g with state := UbxState.cls.code }) (p' := p) (gdFeed_ubx hp (st := .sync2) rfl _) <|
    .cons (g' := { g with state := UbxState.ident.code, cls := cls }) (p' := p) (gdFeed_ubx hp (st := .cls) rfl _) <|
    .cons (g' := { g with state := UbxState.len1.code, cls := cls, id := ident }) (p' := p)
      (gdFeed_ubx hp (st := .ident) rfl _) <|
    .cons (gdFeed_ubx hp (st := .len1) rfl _) .nil
  rw [gdFeed_ubx hp (st := .sync1) (by rw [hstate]; rfl)]; rfl

/-- A UBX frame that declares more than MAX_PAYLOAD bytes, whatever bytes follow its header. -/
theorem feeds_ubx_tooBig {n : Nat} {rest : List Byte} (cls ident : Byte) (hp : s.build.protocol = .ubx)
    (hstate : g.state = 0) (hover : s.build.maxPayload < n) (hn : n < 2 ^ 16) (hrest : rest.length = n + 2) :
    s.Feeds ([0xB5, 0x62, cls, ident] ++ littleEndian16 n ++ rest) g
      { g with
        state := 0, cls := cls, id := ident, len := BitVec.ofNat 16 n, idx := 0, drain := 0,
        tooBig := g.tooBig + 1 } p p := by
  refine (feeds_ubx_lengthLow cls ident _ hp hstate).append (.cons (g' := { g with
      state := UbxState.drain.code, cls := cls, id := ident, len := BitVec.ofNat 16 n, idx := 0,
      drain := BitVec.ofNat 32 (n + 2), tooBig := g.tooBig + 1 }) (p' := p) ?len2 ?drain)
  case len2 =>
    rw [gdFeed_ubx hp (st := .len2) rfl, ubxByte, State.fed_gd, ubx_declared_length hn, takeLength_fed_tooBig hover]
  case drain =>
    exact feeds_drain (fun _ _ hst => gdFeed_ubx hp (st := .drain) (by rw [hst]; rfl) _) rfl
      ((Nat.mod_eq_of_lt (by omega)).trans hrest.symm) (List.ne_nil_of_length_pos (by omega : 0 < rest.length))

/-! ## A TSIP packet beyond the capacity (R99 to R101) -/

theorem stuffed_append (l l' : List Byte) : stuffed (l ++ l') = stuffed l ++ stuffed l' := by
  induction l with
  | nil => rfl
  | cons b l ih =>
    rw [List.cons_append, stuffed, stuffed, ih]
    split <;> rfl

/-- A byte beyond the capacity is not stored; the first one of a packet marks it and is counted (R99). -/
theorem tsipStore_fed_excess {k : State → FeedResult} (b : Byte)
    (hover : g.ovf = true ∨ g.idx.toNat = tsipCap s.build) : tsipStore b (s.fed g p) k =
      k (s.fed { g with ovf := true, tooBig := g.tooBig + if g.ovf then 0 else 1 } p) := by
  rw [tsipStore, State.fed_gd, State.fed_build]
  cases hovf : g.ovf with
  | true => rw [if_pos rfl, if_pos rfl, word_add_zero, ← hovf]
  | false =>
    rw [if_neg Bool.false_ne_true, if_pos (hover.resolve_left (by simp [hovf]))]
    rfl

/-- One byte of a packet beyond the capacity, sent twice when it is DLE (R63, R99, R100). -/
theorem feeds_tsip_excess_byte {b : Byte} {rest : List Byte} {g' : GpsDecoder} {p' : Memory}
    (hp : s.build.protocol = .tsip) (hstate : g.state = TsipState.data.code)
    (hover : g.ovf = true ∨ g.idx.toNat = tsipCap s.build)
    (hrest : s.Feeds (stuffed rest) { g with ovf := true, tooBig := g.tooBig + if g.ovf then 0 else 1 } g' p p') :
    s.Feeds (stuffed (b :: rest)) g g' p p' := by
  have hdata : TsipState.ofCode? g.state = some .data := by rw [hstate]; rfl
  rw [stuffed]
  split
  · refine .cons (g' := { g with state := TsipState.dataDle.code }) (p' := p) ?_ (.cons ?_ hrest)
    · rw [gdFeed_tsip hp hdata]; rfl
    · rw [gdFeed_tsip hp (st := .dataDle) rfl, tsipByte, if_pos rfl,
        tsipStore_fed_excess (g := { g with state := TsipState.dataDle.code }) _ hover, State.setFraming_fed,
        ← hstate]
  · next hdle =>
    refine .cons ?_ hrest
    rw [gdFeed_tsip hp hdata, tsipByte, if_neg hdle, tsipStore_fed_excess _ hover]

/-- The bytes of a packet already marked are discarded (R99). -/
theorem feeds_tsip_discarded {body : List Byte} (hp : s.build.protocol = .tsip)
    (hstate : g.state = TsipState.data.code) (hovf : g.ovf = true) : s.Feeds (stuffed body) g g p p := by
  induction body with
  | nil => exact .nil
  | cons b rest ih =>
    refine feeds_tsip_excess_byte hp hstate (.inl hovf) ?_
    rwa [if_pos hovf, word_add_zero, ← hovf]

/-- The bytes of a packet from the capacity on: counted once, none stored (R99). -/
theorem feeds_tsip_excess {body : List Byte} (hp : s.build.protocol = .tsip) (hstate : g.state = TsipState.data.code)
    (hovf : g.ovf = false) (hidx : g.idx.toNat = tsipCap s.build) (hne : body ≠ []) :
    s.Feeds (stuffed body) g { g with ovf := true, tooBig := g.tooBig + 1 } p p := by
  cases body with
  | nil => exact absurd rfl hne
  | cons b rest =>
    refine feeds_tsip_excess_byte hp hstate (.inr hidx) ?_
    rw [hovf]
    exact feeds_tsip_discarded hp hstate rfl

/-- A packet with more bytes than the capacity: the first ones are stored, and DLE ETX ends it without a dispatch. -/
theorem feeds_tsip_tooBig {ident : Byte} {body : List Byte} (hp : s.build.protocol = .tsip)
    (hmax : s.build.maxPayload < 2 ^ 16 - 1) (hstate : g.state = 0) (hdle : ident ≠ dle) (hetx : ident ≠ etx)
    (hover : tsipCap s.build < body.length) :
    s.Feeds ([dle, ident] ++ stuffed body ++ [dle, etx]) g
      { g with
        state := 0, id := ident, ovf := true, idx := BitVec.ofNat 16 (tsipCap s.build), tooBig := g.tooBig + 1 }
      p (Cells.writeList p 0 (body.take (tsipCap s.build))) := by
  have hcap := tsipCap_le s.build
  have hlen : (body.take (tsipCap s.build)).length = tsipCap s.build := List.length_take_of_le hover.le
  have hstored := feeds_tsip_body (g := { g with state := TsipState.data.code, id := ident, idx := 0, ovf := false })
    (p := p) (body := body.take (tsipCap s.build)) hp hmax rfl rfl ((Nat.zero_add _).trans_le hlen.le)
  rw [hlen, show BitVec.toNat (0 : Half) = 0 from rfl, Nat.zero_add] at hstored
  have hdiscarded := feeds_tsip_excess (g := { g with
      state := TsipState.data.code, id := ident, idx := BitVec.ofNat 16 (tsipCap s.build), ovf := false })
    (p := Cells.writeList p 0 (body.take (tsipCap s.build))) (body := body.drop (tsipCap s.build)) hp rfl rfl
    (Nat.mod_eq_of_lt (by omega)) (by simpa using hover)
  have hbody := hstored.append hdiscarded
  rw [← stuffed_append, List.take_append_drop] at hbody
  exact ((feeds_tsip_start hp hstate hdle hetx).append hbody).append <|
    .cons (gdFeed_tsip hp (st := .data) rfl _) <| .cons (gdFeed_tsip_etx hp rfl) .nil

/-- Settles O57: a declared length over MAX_PAYLOAD drains exactly the bytes that follow the header, and a TSIP packet
stores its first bytes and discards the rest. -/
theorem overLengthFramesAreDrained : Obligations.OverLengthFramesAreDrained := by
  refine ⟨?sirf, ?ubx, ?tsip⟩
  case sirf =>
    intro s n top rest hp hstate hover hn htop hrest
    exact (feeds_sirf_tooBig hp hstate hover hn htop hrest).feedAll_keepsStores (by simp)
  case ubx =>
    intro s cls ident n rest hp hstate hover hn hrest
    exact (feeds_ubx_tooBig cls ident hp hstate hover hn hrest).feedAll_keepsStores (by simp)
  case tsip =>
    intro s ident body hp hmax hwf hstate hdle hetx hover
    have hfed := (feeds_tsip_tooBig hp hmax hstate hdle hetx hover).feedAll_eq (by simp)
    obtain ⟨hread, habove⟩ := read_fed_writeList hwf (body.take (tsipCap s.build))
    have hlen : (body.take (tsipCap s.build)).length = tsipCap s.build := List.length_take_of_le hover.le
    obtain ⟨htb, hhm, hcd, hsys, hcfg, hph, hevents, -, hhost⟩ := s.fed_keeps _ _
    exact ⟨_, hfed, rfl, rfl, fun k _ hk => (hread k (hk.trans_eq hlen.symm)).trans List.getElem_take,
      fun a ha => habove a (hlen.trans_le ha), hph, htb, hhm, hcd, hsys, hcfg, hevents, hhost⟩

end Sys2Proof.Machine

/-! SUPPORT. HealthMonitor's commands (R123 to R129, R132 to R138): the transition of HM_UPDATE row by row with its side
effects, the setters and the second tick as a write followed by HM_UPDATE, and the watchdog refreshes. -/

namespace Sys2Proof.Machine

variable {s t : State}

/-! ## The rows of the transition table (R125) -/

theorem nextSystem_ok_of_gps_lost (osc pll fll : SubStatus) :
    nextSystem .ok osc .unlock pll fll = if fll = .ok then .holdover else .unlock := by
  cases fll <;> rfl

theorem nextSystem_ok_of_gps_not_lost {osc gps pll fll : SubStatus} (h : gps ≠ .unlock) :
    nextSystem .ok osc gps pll fll = .ok := by
  simp [nextSystem, h]

theorem nextSystem_holdover_of_fll_lost (osc gps pll : SubStatus) :
    nextSystem .holdover osc gps pll .unlock = .unlock := rfl

/-- Outside OK, and where row 3 does not match, rows 4 and 5 decide. -/
theorem nextSystem_below_row_three {S : SystemStatus} {osc gps pll fll : SubStatus}
    (hS : S = .unlock ∨ (S = .holdover ∧ fll ≠ .unlock)) : nextSystem S osc gps pll fll =
    if pll = .unlock ∨ osc = .unlock then .unlock else if pll = .ok ∧ gps = .ok ∧ osc = .ok then .ok else S := by
  obtain rfl | ⟨rfl, hfll⟩ := hS
  · simp [nextSystem]
  · simp [nextSystem, hfll]

/-- With Gps not lost in OK, the table does not enter HOLDOVER, and stays there only with Fll not lost. -/
theorem holdover_of_nextSystem {S : SystemStatus} {osc gps pll fll : SubStatus} (hgps : S = .ok → gps ≠ .unlock)
    (h : nextSystem S osc gps pll fll = .holdover) : S = .holdover ∧ fll ≠ .unlock := by
  obtain ⟨hstays, hfll, -⟩ | ⟨hok, hlost, -⟩ := nextSystem_holdover h
  · exact ⟨hstays, hfll⟩
  · exact absurd hlost (hgps hok)

/-! ## The transitions of HM_UPDATE (R125 to R128) -/

theorem exec_hmUpdate (s : State) : exec .hmUpdate s = .next ((hmUpdate s.start).answer 0 0) := rfl

theorem hmUpdate_system (s : State) : (hmUpdate s).hm.system = updateTarget s := by rw [hmUpdate_hm]

/-- With no transition nothing changes. -/
theorem hmUpdate_of_stays (h : updateTarget s = s.hm.system) : hmUpdate s = s := by
  rw [show hmUpdate s = s.withHm { s.hm with system := updateTarget s } from if_pos h, h]
  rfl

/-- HM.update leaves the sub-statuses, the watchdogs and the reference time. -/
theorem hmUpdate_hm_keeps (s : State) :
    (hmUpdate s).hm.osc = s.hm.osc ∧ (hmUpdate s).hm.gps = s.hm.gps ∧ (hmUpdate s).hm.pll = s.hm.pll ∧
      (hmUpdate s).hm.fll = s.hm.fll ∧ (hmUpdate s).hm.gpsWdt = s.hm.gpsWdt ∧
      (hmUpdate s).hm.fllWdt = s.hm.fllWdt ∧ (hmUpdate s).hm.reftime = s.hm.reftime := by
  simp [hmUpdate_hm]

/-- HM_UPDATE leaves every unit but HealthMonitor and ClockDiscipline, and both stores. -/
theorem exec_hmUpdate_keeps (h : exec .hmUpdate s = .next t) :
    t.tb = s.tb ∧ t.gd = s.gd ∧ t.sys = s.sys ∧ t.cfg = s.cfg ∧ s.KeepsStores t ∧ s.KeepsHost t := by
  cases h
  simp [State.KeepsStores, State.KeepsHost]

/-- Settles O23: the table's target is that of its first matching row. -/
theorem updateTakesTheFirstRow : Obligations.UpdateTakesTheFirstRow := by
  intro s S osc gps pll fll hS hosc hgps hpll hfll
  have htarget : (hmUpdate s.start).hm.system = nextSystem S osc gps pll fll := by
    rw [hmUpdate_system, hS, hosc, hgps, hpll, hfll]; rfl
  have hstays : (hmUpdate s.start).hm.system = S → hmUpdate s.start = s.start := fun h =>
    hmUpdate_of_stays ((hmUpdate_system _).symm.trans (h.trans hS))
  obtain ⟨kosc, kgps, kpll, kfll, kgpsWdt, kfllWdt, kreftime⟩ := hmUpdate_hm_keeps s.start
  refine ⟨_, exec_hmUpdate s, rfl, ?_, ?_, ?_, ?_, ?_, ?_, ?_, fun h => ?stays, kosc.trans hosc.symm,
    kgps.trans hgps.symm, kpll.trans hpll.symm, kfll.trans hfll.symm, kgpsWdt, kfllWdt, kreftime,
    exec_hmUpdate_keeps (exec_hmUpdate s)⟩
  case stays =>
    simp only [State.answer_hm, State.answer_cd, State.answer_events, hstays h]
    exact ⟨rfl, rfl, rfl⟩
  all_goals rw [State.answer_hm, htarget]
  · rintro rfl rfl rfl; rfl
  · rintro rfl rfl h; rw [nextSystem_ok_of_gps_lost, if_neg h]
  · rintro rfl h; exact nextSystem_ok_of_gps_not_lost h
  · rintro rfl rfl; exact nextSystem_holdover_of_fll_lost osc gps pll
  · intro h hlost; rw [nextSystem_below_row_three h, if_pos hlost]
  · rintro h rfl rfl rfl; rw [nextSystem_below_row_three h]; rfl
  · intro h hp ho hnot; rw [nextSystem_below_row_three h, if_neg (not_or.mpr ⟨hp, ho⟩), if_neg hnot]

/-- Settles O24: row 5, whose side effect hands on the time between HM.holdover_start and the current second. -/
theorem enteringOk : Obligations.EnteringOk := by
  intro s hweek hsystem hpll hgps hosc hfll
  have hrow : s.hm.system = .unlock ∨ (s.hm.system = .holdover ∧ s.hm.fll ≠ .unlock) := by
    cases h : s.hm.system with
    | unlock => exact .inl rfl
    | holdover => exact .inr ⟨rfl, fun hlost => hfll ⟨h, hlost⟩⟩
    | ok => exact absurd h hsystem
  have htarget : updateTarget s.start = .ok := by
    refine (nextSystem_below_row_three (osc := s.hm.osc) (gps := s.hm.gps) (pll := s.hm.pll) hrow).trans ?_
    simp [hpll, hgps, hosc]
  have hentered : SystemStatus.ok ≠ s.start.hm.system := fun h => hsystem h.symm
  refine ⟨_, exec_hmUpdate s, ?_⟩
  have hkeeps := exec_hmUpdate_keeps (exec_hmUpdate s)
  have hcd := hmUpdate_cd s.start
  simp only [htarget, if_neg hentered] at hcd
  rw [State.answer_events, State.answer_hm, State.answer_cd, hmUpdate_events, hmUpdate_hm, hcd, htarget]
  simp only [if_neg hentered]
  refine ⟨trivial, trivial, rfl, rfl, rfl, fun h => if_neg ?fromUnlock, fun h => ?fromHoldover, hkeeps⟩
  case fromUnlock => simp [h]
  case fromHoldover =>
    refine ⟨holdoverDuration s, _, _, rfl, ?_, rfl, if_pos (by simpa using h)⟩
    rw [State.answer_resp, wrap64_tbToUnix hweek, tbToUnix_eq, holdoverDuration_eq]

/-- Settles O26: row 2 from OK, rows 3 and 4 from HOLDOVER. -/
theorem enteringUnlock : Obligations.EnteringUnlock := by
  intro s hcause
  have hrow : updateTarget s.start = .unlock ∧ s.start.hm.system ≠ .unlock := by
    change nextSystem s.hm.system s.hm.osc s.hm.gps s.hm.pll s.hm.fll = .unlock ∧ s.hm.system ≠ .unlock
    obtain ⟨hok, hgps, hfll⟩ | ⟨hholdover, hlost⟩ := hcause
    · rw [hok, hgps, nextSystem_ok_of_gps_lost, if_neg hfll]
      decide
    · rw [hholdover]
      refine ⟨?_, by decide⟩
      by_cases hfll : s.hm.fll = .unlock
      · rw [hfll, nextSystem_holdover_of_fll_lost]
      · rw [nextSystem_below_row_three (.inr ⟨rfl, hfll⟩), if_pos (hlost.resolve_left hfll)]
  obtain ⟨htarget, hsystem⟩ := hrow
  refine ⟨_, exec_hmUpdate s, ?_⟩
  have hkeeps := exec_hmUpdate_keeps (exec_hmUpdate s)
  rw [State.answer_events, State.answer_hm, State.answer_cd, hmUpdate_events, hmUpdate_hm, hmUpdate_cd, htarget]
  simp only [if_neg hsystem.symm]
  exact ⟨rfl, rfl, rfl, hkeeps⟩

/-! ## The setters (R132 to R135) -/

theorem SubStatus.ofCode?_code {top : Nat} {x : SubStatus} (h : x.code ≤ top) :
    SubStatus.ofCode? top x.code = some x := by
  unfold SubStatus.ofCode?
  rw [if_neg (Nat.not_lt.mpr h)]
  cases x <;> rfl

theorem exec_hmSetOsc {x : SubStatus} (h : x.code ≤ 1) :
    exec (.hmSetOsc x.code) s = .next ((setOscStatus x s.start).answer 0 0) := by
  simp only [exec, execHmSetOsc, SubStatus.ofCode?_code h]

theorem exec_hmSetGps (x : SubStatus) :
    exec (.hmSetGps x.code) s = .next ((setGpsStatus x s.start).answer 0 0) := by
  simp only [exec, execHmSetGps, SubStatus.ofCode?_code x.code_le]

theorem exec_hmSetPll {x : SubStatus} (h : x.code ≤ 1) :
    exec (.hmSetPll x.code) s = .next ((setPllStatus x s.start).answer 0 0) := by
  simp only [exec, execHmSetPll, SubStatus.ofCode?_code h]

theorem exec_hmSetFll {x : SubStatus} (h : x.code ≤ 1) :
    exec (.hmSetFll x.code) s = .next ((setFllStatus x s.start).answer 0 0) := by
  simp only [exec, execHmSetFll, SubStatus.ofCode?_code h]

/-- Settles O27: each setter is, after the start of the command, its write and HM.update (R123). -/
theorem settersUpdate : Obligations.SettersUpdate := by
  intro s c x hx
  have hcode (hc : c ≤ 2) : c = x.code := by
    subst hx
    interval_cases c <;> rfl
  refine ⟨fun hc => ?osc, fun hc => ?gps, fun hc => ?pll, fun hc => ?fllLost, fun hc => ?fllGood⟩
  case osc => obtain rfl := hcode (by omega); exact ⟨_, exec_hmSetOsc hc, rfl⟩
  case gps => obtain rfl := hcode hc; exact ⟨_, exec_hmSetGps x, rfl⟩
  case pll => obtain rfl := hcode (by omega); exact ⟨_, exec_hmSetPll hc, rfl⟩
  case fllLost => subst hc hx; exact ⟨_, exec_hmSetFll (x := .unlock) (by decide), rfl⟩
  case fllGood => subst hc hx; exact ⟨_, exec_hmSetFll (x := .ok) (by decide), rfl⟩

/-! ## The watchdogs (R124, R136, R137) and their aging (R129, R164) -/

/-- Settles O28: a refresh writes its counter alone. -/
theorem watchdogRefreshes : Obligations.WatchdogRefreshes := by
  refine ⟨fun w => ⟨fun h => by simp only [decode, decodeFields, h], fun h => by simp only [decode, decodeFields, h]⟩,
    fun s => ⟨⟨_, rfl, rfl, rfl, rfl, ?_⟩, ⟨_, rfl, rfl, rfl, rfl, ?_⟩⟩⟩ <;>
  simp [State.KeepsStores, State.KeepsHost]

theorem tbAdvance_eq_withTb (s : State) : tbAdvance s = s.withTb (tbAdvance s).tb := by
  unfold tbAdvance
  dsimp only
  split <;> rfl

theorem exec_secondTick_of_no_sample (h : s.sys.pendingValid = false) :
    exec .secondTick s = .next ((hmAge (tbAdvance s.start)).answer 0 0) := by
  simp only [exec, execSecondTick, hmAge_keeps, tbAdvance_keeps, State.start_sys, h]
  rfl

/-- Settles O32: the aging of the advanced state is its writes and HM.update (R129). -/
theorem tickAgesAndUpdates : Obligations.TickAgesAndUpdates := by
  intro s h
  refine ⟨_, _, satInc32 s.hm.gpsWdt, satInc32 s.hm.fllWdt, exec_secondTick_of_no_sample h, rfl, satInc32_toNat _,
    satInc32_toNat _, ?_⟩
  rw [exec_hmUpdate, tbAdvance_eq_withTb]
  rfl

end Sys2Proof.Machine

/-! SUPPORT. HOLDOVER is entered from OK only (R125, R131 (d)): what an update that ends in HOLDOVER found, and that no
command gets there on another way. -/

namespace Sys2Proof.Machine

variable {s t u : State}

/-! ## The relation -/

/-- Between `s` and `t` HOLDOVER was entered, if at all, from OK, with Gps lost and Fll good after (R131 (d)). -/
def State.HoldoverFromOk (s t : State) : Prop :=
  t.hm.system = .holdover → s.hm.system ≠ .holdover → s.hm.system = .ok ∧ t.hm.gps = .unlock ∧ t.hm.fll = .ok

theorem State.HoldoverFromOk.of_system_eq (h : t.hm.system = s.hm.system) : s.HoldoverFromOk t :=
  fun hafter hbefore => absurd (h ▸ hafter) hbefore

theorem State.HoldoverFromOk.of_hm_eq (h : t.hm = s.hm) : s.HoldoverFromOk t := .of_system_eq (by rw [h])

/-- Of the state before, the relation reads the system status only. -/
theorem State.HoldoverFromOk.congr_left (h : s.HoldoverFromOk u) (hsystem : s.hm.system = t.hm.system) :
    t.HoldoverFromOk u := by
  unfold State.HoldoverFromOk at h ⊢
  rwa [← hsystem]

/-- Of the state after, the relation reads HealthMonitor only. -/
theorem State.HoldoverFromOk.congr_right (h : s.HoldoverFromOk t) (hhm : u.hm = t.hm) : s.HoldoverFromOk u := by
  unfold State.HoldoverFromOk at h ⊢
  rwa [hhm]

/-! ## HealthMonitor (R123 to R129) -/

/-- HM.update enters HOLDOVER by the first row of the table only (R125). -/
theorem hmUpdate_holdoverFromOk (s : State) : s.HoldoverFromOk (hmUpdate s) := by
  intro hafter hbefore
  rw [hmUpdate_system] at hafter
  rw [hmUpdate_hm]
  obtain ⟨hstays, -⟩ | hentered := nextSystem_holdover hafter
  · exact absurd hstays hbefore
  · exact hentered

/-- A setter writes sub-statuses and watchdogs, then updates. -/
theorem hmUpdate_withHm_holdoverFromOk {x : HealthMonitor} (hx : x.system = s.hm.system) :
    s.HoldoverFromOk (hmUpdate (s.withHm x)) :=
  (hmUpdate_holdoverFromOk (s.withHm x)).congr_left hx

theorem setPllStatus_holdoverFromOk (x : SubStatus) (s : State) : s.HoldoverFromOk (setPllStatus x s) :=
  hmUpdate_withHm_holdoverFromOk rfl

theorem setGpsStatus_holdoverFromOk (x : SubStatus) (s : State) : s.HoldoverFromOk (setGpsStatus x s) :=
  hmUpdate_withHm_holdoverFromOk rfl

theorem hmAge_holdoverFromOk (s : State) : s.HoldoverFromOk (hmAge s) := hmUpdate_withHm_holdoverFromOk rfl

theorem setFllStatus_system (x : SubStatus) (s : State) :
    (setFllStatus x s).hm.system = nextSystem s.hm.system s.hm.osc s.hm.gps s.hm.pll x := by
  simp [setFllStatus, hmUpdate_system, updateTarget]

/-- The statuses, the watchdogs and the reference time after the two setters that end a step (R123, R145, R155). -/
theorem setFllStatus_setPllStatus_hm (x y : SubStatus) (s : State) :
    (setFllStatus y (setPllStatus x s)).hm.osc = s.hm.osc ∧ (setFllStatus y (setPllStatus x s)).hm.gps = s.hm.gps ∧
      (setFllStatus y (setPllStatus x s)).hm.pll = x ∧ (setFllStatus y (setPllStatus x s)).hm.fll = y ∧
      (setFllStatus y (setPllStatus x s)).hm.gpsWdt = s.hm.gpsWdt ∧
      (setFllStatus y (setPllStatus x s)).hm.fllWdt = (if y = .ok then 0 else s.hm.fllWdt) ∧
      (setFllStatus y (setPllStatus x s)).hm.reftime = s.hm.reftime := by
  simp [setFllStatus, setPllStatus, hmUpdate_hm_keeps]

/-! ## ClockDiscipline (R142, R145, R155) -/

/-- A step sets Pll, then Fll: it ends in HOLDOVER only where the Pll setter does, for after it OK means that Gps is not
lost, and only with Fll good. -/
theorem setFllStatus_setPllStatus_holdoverFromOk (x : SubStatus) {y : SubStatus} (hy : y ≠ .minorAlarm) (s : State) :
    s.HoldoverFromOk (setFllStatus y (setPllStatus x s)) := by
  intro hafter hbefore
  rw [setFllStatus_system] at hafter
  obtain ⟨hpllAfter, hyUnlock⟩ := holdover_of_nextSystem (hmUpdate_gpsNotLost _) hafter
  obtain ⟨hok, hgps, -⟩ := setPllStatus_holdoverFromOk x s hpllAfter hbefore
  obtain ⟨-, -, hpllGps, -⟩ := setPllStatus_hm x s
  obtain ⟨-, hgpsKept, -, hfll, -⟩ := setFllStatus_setPllStatus_hm x y s
  refine ⟨hok, (hgpsKept.trans hpllGps.symm).trans hgps, hfll.trans ?_⟩
  cases y with
  | unlock => exact absurd rfl hyUnlock
  | ok => rfl
  | minorAlarm => exact absurd rfl hy

/-- The state with the reference time latched, where Pll is locked. -/
theorem lockLatched_eq (f : Int) (s : State) : lockLatched f s =
    s.withHm { s.hm with reftime := if pllLocked f s then tbToNtp s 0 0 else s.hm.reftime } := by
  unfold lockLatched
  split <;> rfl

/-- HealthMonitor after the lock evaluation, but for the system status and its side effects (R155). -/
theorem lockEvaluation_hm (f : Int) (s : State) :
    (lockEvaluation f s).hm.osc = s.hm.osc ∧ (lockEvaluation f s).hm.gps = s.hm.gps ∧
      (lockEvaluation f s).hm.pll = lockStatus (pllLocked f s) ∧
      (lockEvaluation f s).hm.fll = lockStatus (fllLocked s) ∧ (lockEvaluation f s).hm.gpsWdt = s.hm.gpsWdt ∧
      (lockEvaluation f s).hm.fllWdt = (if lockStatus (fllLocked s) = .ok then 0 else s.hm.fllWdt) ∧
      (lockEvaluation f s).hm.reftime = if pllLocked f s then tbToNtp s 0 0 else s.hm.reftime := by
  have hset := setFllStatus_setPllStatus_hm (lockStatus (pllLocked f s)) (lockStatus (fllLocked s)) (lockLatched f s)
  rwa [← lockEvaluation_eq, lockLatched_eq] at hset

theorem lockEvaluation_holdoverFromOk (f : Int) (s : State) : s.HoldoverFromOk (lockEvaluation f s) := by
  rw [lockEvaluation_eq, lockLatched_eq]
  exact (setFllStatus_setPllStatus_holdoverFromOk _ (lockStatus_ne_minorAlarm _) _).congr_left rfl

theorem resync_holdoverFromOk (s : State) : s.HoldoverFromOk (resync s) :=
  (setFllStatus_setPllStatus_holdoverFromOk .unlock (by decide) _).congr_left (by simp)

theorem steer_holdoverFromOk (p : Int) (s : State) : s.HoldoverFromOk (steer p s) := by
  rw [steer_eq_stages]
  exact (lockEvaluation_holdoverFromOk _ _).congr_left (by simp)

theorem cdStep_holdoverFromOk {p : Int} {v : Bool} {r : State × Bool} (h : cdStep p v s = .ok r) :
    s.HoldoverFromOk r.1 := by
  obtain rfl | rfl | rfl := cdStep_cases h <;> dsimp only
  · exact .of_hm_eq rfl
  · exact (resync_holdoverFromOk _).congr_left (by simp)
  · exact (steer_holdoverFromOk _ _).congr_left (by simp)

theorem resync_gps (s : State) : (resync s).hm.gps = s.hm.gps := by
  unfold resync
  dsimp only
  obtain ⟨-, hgps, -⟩ := setFllStatus_setPllStatus_hm .unlock .unlock _
  rw [hgps]
  simp

/-- A step reports Pll and Fll only: Gps stays (R155). -/
theorem cdStep_gps {p : Int} {v : Bool} {r : State × Bool} (h : cdStep p v s = .ok r) : r.1.hm.gps = s.hm.gps := by
  obtain rfl | rfl | rfl := cdStep_cases h <;> dsimp only
  · rfl
  · rw [resync_gps]
    simp
  · obtain ⟨-, hgps, -⟩ := lockEvaluation_hm (lowPass (jumpFilter p s).2 (jumpFilter p s).1).2
      (steerBooked (jumpFilter p s).2 (jumpFilter p s).1)
    rw [steer_eq_stages, hgps]
    simp

/-- The aging leaves OK only with Gps not lost, so that the step after it does not enter HOLDOVER; in HOLDOVER no step
runs (R129, R164, R165). -/
theorem tickStep_hmAge_holdoverFromOk {r : State × Bool} (h : tickStep (hmAge s) = .ok r) : s.HoldoverFromOk r.1 := by
  have haged := hmAge_holdoverFromOk s
  by_cases hholdover : (hmAge s).hm.system = .holdover
  · rw [tickStep_of_holdover hholdover] at h
    cases h
    exact haged.congr_right rfl
  · obtain hr | hr := tickStep_cases h
    · exact haged.congr_right (by rw [hr]; rfl)
    · intro hafter _
      obtain ⟨hok, hgps, -⟩ := cdStep_holdoverFromOk hr hafter hholdover
      exact absurd ((cdStep_gps hr).symm.trans hgps) (hmUpdate_gpsNotLost _ hok)

/-! ## GpsDecoder (R111) -/

theorem dispatch_holdoverFromOk (n : Nat) (s : State) : s.HoldoverFromOk (dispatch n s).1 := by
  cases hd : dispatch n s
  obtain ⟨-, gd, rfl⟩ | ⟨-, x, tb, gd, rfl⟩ := dispatch_cases hd
  · exact .of_system_eq rfl
  · exact (setGpsStatus_holdoverFromOk x _).congr_left rfl

theorem gdFeed_holdoverFromOk {b : Byte} {r : State × FeedEvent} (h : gdFeed b s = .ok r) : s.HoldoverFromOk r.1 := by
  have hfed := gdFeed_fedFrom b s
  rw [h] at hfed
  obtain ⟨u, ⟨-, hhm, -⟩, -, rfl | ⟨n, rfl⟩⟩ := hfed
  · exact .of_hm_eq hhm
  · exact (dispatch_holdoverFromOk n u).congr_left (by rw [hhm])

/-! ## The statement -/

theorem effect_holdoverFromOk {i : Instr} (hu : CommandEffect i s u) : s.HoldoverFromOk u := by
  cases i with
  | nop | tbTickToNs | tbToNtp | tbToUnix | tbGetDate | hmShouldRun | hmGetStatus | readReg | readPb =>
    cases hu
    exact .of_hm_eq rfl
  | tbAdvance | cdEnterHoldover | cdLeaveHoldover => cases hu; exact .of_hm_eq (by simp)
  | hmResetGpsWdt | hmResetFllWdt => cases hu; exact .of_system_eq rfl
  | reset =>
    simp only [CommandEffect] at hu
    split at hu <;> subst hu <;> exact nofun
  | secondTick =>
    simp only [CommandEffect] at hu
    have hdate : (tbAdvance s).hm.system = s.hm.system := by simp
    split at hu
    · obtain ⟨r, hr, rfl⟩ := hu
      exact ((tickStep_hmAge_holdoverFromOk hr).congr_left hdate).congr_right rfl
    · exact hu ▸ (hmAge_holdoverFromOk _).congr_left hdate
  | ppsCapture tick =>
    obtain ⟨x, rfl⟩ := hu
    split <;> exact .of_hm_eq rfl
  | gpsFeed byte => obtain ⟨r, hr, rfl⟩ := hu; exact gdFeed_holdoverFromOk hr
  | tbSetDate week off tow => obtain ⟨-, rfl⟩ := hu; exact .of_hm_eq (by simp)
  | hmSetOsc code | hmSetPll code | hmSetFll code => obtain ⟨x, -, rfl⟩ := hu; exact hmUpdate_withHm_holdoverFromOk rfl
  | hmSetGps code => obtain ⟨x, rfl⟩ := hu; exact setGpsStatus_holdoverFromOk x s
  | hmUpdate => exact hu ▸ hmUpdate_holdoverFromOk s
  | cdStep phase gpsValid => obtain ⟨r, hr, rfl⟩ := hu; exact cdStep_holdoverFromOk hr
  | cfgWrite reg value =>
    obtain ⟨v, hset⟩ := hu
    obtain ⟨-, -, hhm, -⟩ := cfgSet_keeps hset
    exact .of_hm_eq hhm

/-- Settles O30: a rejected command leaves the status, every other one enters HOLDOVER by an update that found OK. -/
theorem holdoverOnlyFromOk : Obligations.HoldoverOnlyFromOk := by
  intro i s t h
  obtain rfl | ⟨u, r0, r1, hu, rfl⟩ := exec_effect h
  · exact State.HoldoverFromOk.of_hm_eq rfl
  · exact (effect_holdoverFromOk hu).congr_left rfl

end Sys2Proof.Machine

/-! SUPPORT. The lock evaluation that ends a step (R155): what it reports, and that HealthMonitor, ClockDiscipline and
the events are those that HM_SET_PLL and then HM_SET_FLL give (R123, R125). -/

namespace Sys2Proof

theorem Build.one_le_tickHz {b : Build} (h : b.legal = true) : 1 ≤ b.tickHz := by
  simp only [Build.legal, decide_eq_true_eq] at h; omega

end Sys2Proof

namespace Sys2Proof.Machine

variable {s s' t u : State}

/-! ## States that HM.update does not tell apart -/

/-- `s'` agrees with `s` on all that HM.update reads, but for the environment, which it asks on entering HOLDOVER
only. -/
structure State.MonitorsAlike (s s' : State) : Prop where
  tb : s'.tb = s.tb
  hm : s'.hm = s.hm
  cd : s'.cd = s.cd
  cfg : s'.cfg = s.cfg
  build : s'.build = s.build

theorem State.MonitorsAlike.withHm (h : s.MonitorsAlike s') (x : HealthMonitor) :
    (s.withHm x).MonitorsAlike (s'.withHm x) := ⟨h.tb, rfl, h.cd, h.cfg, h.build⟩

theorem State.MonitorsAlike.start (h : s.MonitorsAlike s') : s.MonitorsAlike s'.start :=
  ⟨h.tb, h.hm, h.cd, h.cfg, h.build⟩

theorem State.MonitorsAlike.answer (h : s.MonitorsAlike s') (r0 : Quad) (r1 : Word) :
    s.MonitorsAlike (s'.answer r0 r1) := ⟨h.tb, h.hm, h.cd, h.cfg, h.build⟩

/-- With Gps not lost in OK, HM.update does the same to both, and adds the same events (R125 to R128). -/
theorem State.MonitorsAlike.hmUpdate (h : s.MonitorsAlike s') (hgps : GpsNotLost s.hm) :
    (hmUpdate s).MonitorsAlike (hmUpdate s') ∧
      ∃ new, (hmUpdate s).events = s.events ++ new ∧ (hmUpdate s').events = s'.events ++ new := by
  have hagree : s' = { s' with tb := s.tb, hm := s.hm, cd := s.cd, cfg := s.cfg, build := s.build } := by
    rw [← h.tb, ← h.hm, ← h.cd, ← h.cfg, ← h.build]
  have hgps' : GpsNotLost s'.hm := h.hm ▸ hgps
  have htarget : updateTarget s' = updateTarget s := by rw [hagree]
  refine ⟨⟨?tb, ?hm, ?cd, ?cfg, ?build⟩, ?events⟩
  case tb => simpa using h.tb
  case cfg => simpa using h.cfg
  case build => simpa using h.build
  case hm => rw [hmUpdate_hm, hmUpdate_hm, hagree]; rfl
  case cd => rw [hmUpdate_cd_of_gpsNotLost hgps, hmUpdate_cd_of_gpsNotLost hgps', hagree]; rfl
  case events =>
    simp only [hmUpdate_events, htarget, h.hm]
    split
    · exact ⟨[], by simp, by simp⟩
    · next hchanged =>
      cases hafter : updateTarget s with
      | ok => exact ⟨_, rfl, rfl⟩
      | unlock => exact ⟨_, rfl, rfl⟩
      | holdover =>
        obtain ⟨hstays, -⟩ := holdover_of_nextSystem hgps hafter
        exact absurd (hafter.trans hstays.symm) hchanged

theorem State.MonitorsAlike.setPllStatus (h : s.MonitorsAlike s') (hgps : GpsNotLost s.hm) (x : SubStatus) :
    (setPllStatus x s).MonitorsAlike (setPllStatus x s') ∧
      ∃ new, (setPllStatus x s).events = s.events ++ new ∧ (setPllStatus x s').events = s'.events ++ new := by
  unfold Machine.setPllStatus
  rw [h.hm]
  exact (h.withHm { s.hm with pll := x }).hmUpdate hgps

theorem State.MonitorsAlike.setFllStatus (h : s.MonitorsAlike s') (hgps : GpsNotLost s.hm) (x : SubStatus) :
    (setFllStatus x s).MonitorsAlike (setFllStatus x s') ∧
      ∃ new, (setFllStatus x s).events = s.events ++ new ∧ (setFllStatus x s').events = s'.events ++ new := by
  unfold Machine.setFllStatus
  rw [h.hm]
  exact (h.withHm { s.hm with fll := x, fllWdt := if x = .ok then 0 else s.hm.fllWdt }).hmUpdate hgps

/-! ## What the lock evaluation reports -/

theorem lockStatus_eq_ok (locked : Bool) : lockStatus locked = .ok ↔ locked = true := by cases locked <;> decide

theorem lockStatus_eq_unlock (locked : Bool) : lockStatus locked = .unlock ↔ locked = false := by
  cases locked <;> decide

theorem lockStatus_code_le (locked : Bool) : (lockStatus locked).code ≤ 1 := by cases locked <;> decide

theorem pllLocked_iff (f : Int) (s : State) : pllLocked f s = true ↔
    f.natAbs ≤ s.build.pllHealthyNs ∧ s.build.pllStartupS ≤ s.cd.secondsSinceReset.toNat := by
  simp [pllLocked]

theorem fllLocked_iff (s : State) : fllLocked s = true ↔ 1 ≤ s.cd.fllUpdates.toNat := by simp [fllLocked]

/-- The lock evaluation writes the factors of ClockDiscipline at most (R126, R157). -/
theorem lockEvaluation_cd_but_factors (f : Int) (h : GpsNotLost s.hm) :
    { (lockEvaluation f s).cd with pllFactor := s.cd.pllFactor, fllFactor := s.cd.fllFactor } = s.cd := by
  obtain ⟨hanneals, hstays⟩ := lockEvaluation_cd f h
  by_cases ha : s.AnnealsInStep (lockEvaluation f s)
  · rw [hanneals ha]; rfl
  · rw [hstays ha]

/-- Both statuses after the lock evaluation in terms of the registers then, and what is latched and cleared with them
(R155). -/
theorem lockEvaluation_reports (f : Int) (h : GpsNotLost s.hm) (ht : t = lockEvaluation f s) :
    (t.hm.pll = .ok ↔ f.natAbs ≤ s.build.pllHealthyNs ∧ s.build.pllStartupS ≤ t.cd.secondsSinceReset.toNat) ∧
      (t.hm.pll = .ok ∨ t.hm.pll = .unlock) ∧ (t.hm.fll = .ok ↔ 1 ≤ t.cd.fllUpdates.toNat) ∧
      (t.hm.fll = .ok ∨ t.hm.fll = .unlock) ∧ (t.hm.pll = .ok → t.hm.reftime = tbToNtp s 0 0) ∧
      (t.hm.pll = .unlock → t.hm.reftime = s.hm.reftime) ∧ (t.hm.fll = .ok → t.hm.fllWdt = 0) ∧
      (t.hm.fll = .unlock → t.hm.fllWdt = s.hm.fllWdt) ∧
      t.hm.osc = s.hm.osc ∧ t.hm.gps = s.hm.gps ∧ t.hm.gpsWdt = s.hm.gpsWdt := by
  obtain ⟨hosc, hgps, hpll, hfll, hgpsWdt, hfllWdt, hreftime⟩ := lockEvaluation_hm f s
  have hcd := lockEvaluation_cd_but_factors f h
  have hseconds : s.cd.secondsSinceReset = (lockEvaluation f s).cd.secondsSinceReset :=
    (congrArg ClockDiscipline.secondsSinceReset hcd).symm
  have hupdates : s.cd.fllUpdates = (lockEvaluation f s).cd.fllUpdates :=
    (congrArg ClockDiscipline.fllUpdates hcd).symm
  subst ht
  rw [hpll, hfll, hfllWdt, hreftime, ← hseconds, ← hupdates]
  simp only [lockStatus_eq_ok, lockStatus_eq_unlock]
  refine ⟨pllLocked_iff f s, Bool.eq_false_or_eq_true _, fllLocked_iff s, Bool.eq_false_or_eq_true _,
    fun hok => if_pos hok, fun hlost => if_neg (Bool.eq_false_iff.mp hlost), fun hok => if_pos hok,
    fun hlost => if_neg (Bool.eq_false_iff.mp hlost), hosc, hgps, hgpsWdt⟩

/-- A state with the date, the configuration and the instance of `s`, the reference time that the lock evaluation
latches and ClockDiscipline as it leaves it, but for the factors, has all that the setters read as they find it. -/
theorem lockLatched_alike (f : Int) (h : GpsNotLost s.hm) (ht : t = lockEvaluation f s) (htb : s'.tb = s.tb)
    (hcfg : s'.cfg = s.cfg) (hbuild : s'.build = s.build) (hhm : s'.hm = { s.hm with reftime := t.hm.reftime })
    (hcd : s'.cd = { t.cd with pllFactor := s.cd.pllFactor, fllFactor := s.cd.fllFactor }) :
    (lockLatched f s).MonitorsAlike s' := by
  obtain ⟨-, -, -, -, -, -, hreftime⟩ := lockEvaluation_hm f s
  have hfactors := lockEvaluation_cd_but_factors f h
  rw [← ht] at hreftime hfactors
  rw [lockLatched_eq, ← hreftime]
  exact ⟨htb, hhm, hcd.trans hfactors, hcfg, hbuild⟩

/-- The lock evaluation is HM_SET_PLL, then HM_SET_FLL, with the two lock statuses, in any state that has what they read
as it is once the reference time is latched. -/
theorem lockEvaluation_as_setters (f : Int) (h : GpsNotLost s.hm) (halike : (lockLatched f s).MonitorsAlike s')
    (ht : t = lockEvaluation f s) :
    ∃ w u, exec (.hmSetPll t.hm.pll.code) s' = .next w ∧ exec (.hmSetFll t.hm.fll.code) w = .next u ∧ t.hm = u.hm ∧
      t.cd = u.cd ∧ t.events = s.events ++ (w.events ++ u.events) := by
  have hlatched : GpsNotLost (lockLatched f s).hm := by rw [lockLatched_eq]; exact h
  have hevents : (lockLatched f s).events = s.events := by rw [lockLatched_eq]; rfl
  obtain ⟨hpll, pllEvents, hpllEvents, hpllEvents'⟩ := halike.start.setPllStatus hlatched (lockStatus (pllLocked f s))
  obtain ⟨hfll, fllEvents, hfllEvents, hfllEvents'⟩ :=
    (hpll.answer 0 0).start.setFllStatus (hmUpdate_gpsNotLost _) (lockStatus (fllLocked s))
  rw [← lockEvaluation_eq] at hfll hfllEvents
  obtain ⟨-, -, hpllStatus, hfllStatus, -⟩ := lockEvaluation_hm f s
  rw [ht, hpllStatus, hfllStatus]
  refine ⟨_, _, exec_hmSetPll (lockStatus_code_le _), exec_hmSetFll (lockStatus_code_le _), ?_⟩
  rw [State.answer_hm, State.answer_cd, State.answer_events, State.answer_events, hfll.hm, hfll.cd, hfllEvents',
    hfllEvents, hpllEvents', hpllEvents, hevents, State.start_events, State.start_events, List.nil_append,
    List.nil_append, List.append_assoc]
  exact ⟨rfl, rfl, rfl⟩

/-! ## The step up to its lock evaluation (R142, R151, R153) -/

theorem cdCommand_events (rate : Int) (s : State) : ∃ req applied ticks,
    (cdCommand rate s).1.events = s.events ++ [.oscRate req applied, .timerPeriod ticks] :=
  ⟨_, _, _, List.append_assoc _ _ _⟩

/-- Before its lock evaluation a step emits the two events of its rate command (R151). -/
theorem steerBooked_events (p : Int) (s : State) : ∃ req applied ticks,
    (steerBooked p s).events = s.events ++ [.oscRate req applied, .timerPeriod ticks] := by
  have hlearned : (steerLearned p s).events = s.events := by
    unfold steerLearned steerSlewed
    split <;> simp
  have hcommanded := cdCommand_events
    ((steerSlewed p s).2 + (steerLearned p s).cd.fllRate.toInt + steerDither p s) (steerLearned p s)
  rw [hlearned] at hcommanded
  simpa [steerBooked, steerFedBack, steerCommanded] using hcommanded

/-- A factor after a step whose ramp counts under the condition `c` (R153). -/
theorem factorAfter_toNat {c : Prop} [Decidable c] (interval : Nat) (ramp : Word) (factor top : Half) :
    (if c then factorAfter interval ramp factor top else factor).toNat =
      if c ∧ interval ≤ min (ramp.toNat + 1) (2 ^ 32 - 1) then min (factor.toNat + 1) top.toNat else factor.toNat := by
  by_cases hc : c
  · rw [if_pos hc]
    by_cases hreached : interval ≤ min (ramp.toNat + 1) (2 ^ 32 - 1)
    · rw [if_pos ⟨hc, hreached⟩, factorAfter_of_le factor top hreached]
    · rw [if_neg fun h => hreached h.2, factorAfter_of_lt factor top (Nat.lt_of_not_le hreached)]
  · rw [if_neg hc, if_neg fun h => hc h.1]

/-- The step of CD_STEP that accepted a sample ends in the lock evaluation of its filter output in a state `u` with the
ramped factors, in which HealthMonitor is as before and the rate command has been made. -/
theorem cdStep_lockEvaluation {p : Int} {r : State × Bool} (hlegal : s.build.legal = true)
    (hfits : s.build.fits = true) (h : s.Inv) (hb : s.Bounded) (hr : cdStep p true s = .ok r)
    (hvalid : r.1.cd.prevValid = true) :
    ∃ u : State, r.1 = lockEvaluation r.1.cd.filtered.toInt u ∧
      u.tb = s.tb ∧ u.hm = s.hm ∧ u.cfg = s.cfg ∧ u.build = s.build ∧
      (∃ req applied ticks, u.events = s.events ++ [.oscRate req applied, .timerPeriod ticks]) ∧
      s.Ramped r.1 u.cd.pllFactor u.cd.fllFactor := by
  obtain ⟨hphase, hsteer⟩ := cdStep_steers hr hvalid
  obtain ⟨counter, subs, hcd⟩ := jumpFilter_cd p s
  have hbounded := (jumpFilter_bounded p hb).discipline
  have hkeeps := jumpFilter_keeps s p
  generalize jumpFilter p s = j at hphase hsteer hcd hbounded hkeeps
  obtain ⟨v, a⟩ := j
  dsimp only at hphase hsteer hcd hbounded hkeeps
  obtain ⟨htb, -, hhm, -, hcfg, -, -, hbuild, -, -, -, -, -, hevents⟩ := hkeeps
  have hrange := Build.resyncPhaseNs_le hfits
  obtain ⟨-, hf⟩ := lowPass_bounded (s := v) (p := a) (by rwa [hbuild]) (by rwa [hbuild]) hbounded (by rwa [hbuild])
  rw [hbuild] at hf
  obtain ⟨hfiltered, -, hpllFactor, -, hfllFactor⟩ := steerBooked_ramps a v
  obtain ⟨hkept, -⟩ := steer_factors (s := v) (p := a) (by rw [hhm]; exact h.gpsNotLost)
  have hout : (steer a v).cd.filtered.toInt = (lowPass a v).2 := by
    rw [hkept, hfiltered, toInt_ofInt32 (by omega) (by omega)]
  have hactive : fllActive v = true ↔ s.build.fllSettleS ≤ s.cd.secondsSinceReset.toNat := by
    simp [fllActive, hbuild, hcd]
  simp only [hbuild, hcfg, hcd, hactive] at hpllFactor hfllFactor
  rw [hsteer]
  refine ⟨steerBooked a v, by rw [hout, steer_eq_stages], by simp [htb], by simp [hhm], by simp [hcfg],
    by simp [hbuild], hevents ▸ steerBooked_events a v, ?pll, ?fll⟩
  case pll => rw [hpllFactor, factorAfter_toNat, hout]
  case fll => rw [hfllFactor, factorAfter_toNat]

/-- The NTP timestamp reads the date and the instance only (R79). -/
theorem tbToNtp_congr (htb : t.tb = s.tb) (hbuild : t.build = s.build) (tick : Nat) (fudge : Int) :
    tbToNtp t tick fudge = tbToNtp s tick fudge := by
  simp only [tbToNtp, tbSeconds, htb, hbuild]

/-- Settles O44: a step that accepted a sample ends in its lock evaluation, which is the two setters with the two lock
statuses. -/
theorem lockEvaluationReports : Obligations.LockEvaluationReports := by
  intro s t p hlegal hfits h hb _ _ hexec hvalid
  obtain ⟨⟨x, ran⟩, hr, rfl⟩ := exec_cdStep_next hexec
  obtain ⟨u, hstep, htb, hhm, hcfg, hbuild, ⟨req, applied, ticks, hevents⟩, hramped⟩ :=
    cdStep_lockEvaluation (s := s.start) hlegal hfits (h.congr rfl rfl rfl rfl rfl rfl rfl rfl) (hb.congr rfl rfl rfl)
      hr hvalid
  have hgpsNotLost : GpsNotLost u.hm := hhm ▸ h.gpsNotLost
  obtain ⟨hpll, hpllEither, hfll, hfllEither, hlatched, hkept, hcleared, hcounting, hosc, hgps, hgpsWdt⟩ :=
    lockEvaluation_reports _ hgpsNotLost hstep
  have halike := lockLatched_alike (s' := { s with
      hm := { s.hm with reftime := x.hm.reftime },
      cd := { x.cd with pllFactor := u.cd.pllFactor, fllFactor := u.cd.fllFactor } })
    _ hgpsNotLost hstep htb.symm hcfg.symm hbuild.symm (by rw [hhm]; rfl) rfl
  obtain ⟨w, y, hw, hy, hyhm, hycd, hyevents⟩ := lockEvaluation_as_setters _ hgpsNotLost halike hstep
  rw [hevents] at hyevents
  rw [hhm] at hkept hcounting hosc hgps hgpsWdt
  rw [hbuild] at hpll
  refine ⟨hpll, hpllEither, hfll, hfllEither, fun hok => ?latched, hkept, hcleared, hcounting, hosc, hgps, hgpsWdt,
    u.cd.pllFactor, u.cd.fllFactor, _, w, y, req, applied, ticks, hramped, rfl, hw, hy, hyhm, hycd, hyevents⟩
  case latched =>
    refine ⟨_, exec_tbToNtp_of_lt 0 (Build.one_le_tickHz hlegal), ?_⟩
    exact (hlatched hok).trans (tbToNtp_congr (t := u) (s := s) htb hbuild 0 0)

end Sys2Proof.Machine

/-! SUPPORT. The events of a command (R151, R161 (f), R182): a rate command emits its bounded request with the timer period
right behind it, HM.update makes such a command only on its way into HOLDOVER, and no command makes two. -/

namespace Sys2Proof.Machine

variable {s t u : State}

/-! ## What a run of events holds -/

/-- From `s` to `t` only PPS events were emitted. -/
def State.EmitsPps (s t : State) : Prop :=
  ∃ es, t.events = s.events ++ es ∧ ∀ e ∈ es, e = .ppsEnable ∨ e = .ppsDisable

/-- From `s` to `t` no rate request was made. -/
def State.EmitsNoRate (s t : State) : Prop :=
  ∃ es, t.events = s.events ++ es ∧ ∀ e ∈ es, e = .forceResync ∨ e = .ppsEnable ∨ e = .ppsDisable

/-- From `s` to `t` one rate request was made, within the bounds of R151 as seen from `s`, and PPS events emitted before
and after it. -/
def State.RequestsRate (s t : State) : Prop :=
  ∃ (before after : List Event) (req applied tu : Int),
    t.events = s.events ++ (before ++ .oscRate req applied :: .timerPeriod (s.build.timerPeriodNominal - tu) :: after) ∧
    (∀ e ∈ before ++ after, e = .ppsEnable ∨ e = .ppsDisable) ∧
    -2 ^ 31 ≤ req ∧ req < 2 ^ 31 ∧ (req - s.cd.oscLast.toInt).natAbs ≤ s.build.oscStepMaxPpt ∧
    -2 ^ 31 ≤ applied ∧ applied < 2 ^ 31 ∧ tu.natAbs ≤ s.build.timerTrimMax

theorem State.EmitsPps.of_eq (h : t.events = s.events) : s.EmitsPps t := ⟨[], by simp [h], nofun⟩

theorem State.EmitsPps.trans (h1 : s.EmitsPps t) (h2 : t.EmitsPps u) : s.EmitsPps u := by
  obtain ⟨es, hes, hpps⟩ := h1
  obtain ⟨fs, hfs, hpps'⟩ := h2
  refine ⟨es ++ fs, by rw [hfs, hes, List.append_assoc], fun e he => ?_⟩
  exact (List.mem_append.mp he).elim (hpps e) (hpps' e)

theorem State.EmitsPps.noRate (h : s.EmitsPps t) : s.EmitsNoRate t := by
  obtain ⟨es, hes, hpps⟩ := h
  exact ⟨es, hes, fun e he => .inr (hpps e he)⟩

theorem State.EmitsNoRate.after_pps (h1 : s.EmitsPps t) (h2 : t.EmitsNoRate u) : s.EmitsNoRate u := by
  obtain ⟨es, hes, hpps⟩ := h1
  obtain ⟨fs, hfs, hrest⟩ := h2
  refine ⟨es ++ fs, by rw [hfs, hes, List.append_assoc], fun e he => ?_⟩
  exact (List.mem_append.mp he).elim (fun he => .inr (hpps e he)) (hrest e)

theorem State.RequestsRate.then_pps (h1 : s.RequestsRate t) (h2 : t.EmitsPps u) : s.RequestsRate u := by
  obtain ⟨before, after, req, applied, tu, hes, hpps, hbounds⟩ := h1
  obtain ⟨fs, hfs, hpps'⟩ := h2
  refine ⟨before, after ++ fs, req, applied, tu, by rw [hfs, hes]; simp, fun e he => ?_, hbounds⟩
  rw [← List.append_assoc] at he
  exact (List.mem_append.mp he).elim (hpps e) (hpps' e)

/-- The bounds of a request speak of the build and CD.osc_last. -/
theorem State.RequestsRate.after_pps (h1 : s.EmitsPps t) (hbuild : t.build = s.build)
    (hlast : t.cd.oscLast = s.cd.oscLast) (h2 : t.RequestsRate u) : s.RequestsRate u := by
  obtain ⟨es, hes, hpps⟩ := h1
  obtain ⟨before, after, req, applied, tu, hfs, hpps', hbounds⟩ := h2
  rw [hbuild] at hfs hbounds
  rw [hlast] at hbounds
  refine ⟨es ++ before, after, req, applied, tu, by rw [hfs, hes]; simp, fun e he => ?_, hbounds⟩
  rw [List.append_assoc] at he
  exact (List.mem_append.mp he).elim (hpps e) (hpps' e)

/-- What a command emits: no rate request, or one. -/
def State.RequestsAtMostOnce (s t : State) : Prop := s.EmitsNoRate t ∨ s.RequestsRate t

theorem State.EmitsPps.atMostOnce (h : s.EmitsPps t) : s.RequestsAtMostOnce t := .inl h.noRate

theorem State.RequestsAtMostOnce.after_pps (h1 : s.EmitsPps t) (hbuild : t.build = s.build)
    (hlast : t.cd.oscLast = s.cd.oscLast) (h2 : t.RequestsAtMostOnce u) : s.RequestsAtMostOnce u :=
  h2.imp (.after_pps h1) (.after_pps h1 hbuild hlast)

/-- An operation that emits nothing more. -/
theorem State.RequestsAtMostOnce.congr_right (h : s.RequestsAtMostOnce t) (hevents : u.events = t.events) :
    s.RequestsAtMostOnce u := by
  unfold State.RequestsAtMostOnce State.EmitsNoRate State.RequestsRate at h ⊢
  rwa [hevents]

/-! ## The rate command (R151) -/

/-- A request fits the driver's i32 and lies within one step of CD.osc_last: the clamp to i32 moves it towards
CD.osc_last, which is one. -/
theorem oscRequest_bounds (s : State) (rate : Int) :
    -2 ^ 31 ≤ oscRequest s rate ∧ oscRequest s rate < 2 ^ 31 ∧
      (oscRequest s rate - s.cd.oscLast.toInt).natAbs ≤ s.build.oscStepMaxPpt := by
  have hlow := s.cd.oscLast.le_toInt
  have hhigh := s.cd.oscLast.toInt_lt
  have hstep := clamp_bounds (v := rndHalfUp rate s.build.oscGranPpt)
    (lo := s.cd.oscLast.toInt - s.build.oscStepMaxPpt) (hi := s.cd.oscLast.toInt + s.build.oscStepMaxPpt) (by omega)
  unfold oscRequest
  dsimp only
  generalize clamp (rndHalfUp rate s.build.oscGranPpt) _ _ = req at hstep
  unfold clamp
  split
  · omega
  · split <;> omega

/-- A rate command emits its request with the reply, and the trimmed timer period (R151). -/
theorem cdCommand_events_eq (rate : Int) (s : State) : (cdCommand rate s).1.events = s.events ++
    [.oscRate (oscRequest s rate) (s.oscReply (oscRequest s rate)),
      .timerPeriod (s.build.timerPeriodNominal - timerTrim s rate (s.oscReply (oscRequest s rate)))] :=
  List.append_assoc _ _ _

theorem cdCommand_requestsRate (rate : Int) (s : State) : s.RequestsRate (cdCommand rate s).1 := by
  obtain ⟨hlow, hhigh, hstep⟩ := oscRequest_bounds s rate
  obtain ⟨hreply, hreply'⟩ := oscReply_bounds s (oscRequest s rate)
  exact ⟨[], [], _, _, _, cdCommand_events_eq rate s, nofun, hlow, hhigh, hstep, hreply, hreply', clamp_natAbs_le _ _⟩

theorem cdEnterHoldover_requestsRate (s : State) : s.RequestsRate (cdEnterHoldover s) :=
  (cdCommand_requestsRate s.cd.fllRate.toInt s).then_pps (.of_eq rfl)

/-- Settles O47: from a fresh request index, the driver's reply is the first one given; the reset that follows emits
nothing. -/
theorem enterHoldoverCommand : Obligations.EnterHoldoverCommand := by
  intro s
  have hreply := oscReply_bounds s.start (oscRequest s.start s.cd.fllRate.toInt)
  refine ⟨_, _, _, _, rfl, rfl, rfl, fun r rs hgiven => ?_, hreply.1, hreply.2, rfl,
    cdCommand_events_eq s.cd.fllRate.toInt s.start, rfl, ?_⟩
  · simp [State.oscReply, hgiven]
  · simp [State.KeepsStores, State.KeepsHost]

/-! ## HealthMonitor (R125 to R129) -/

/-- HM.update emits PPS events and leaves CD.osc_last, or it enters HOLDOVER and makes one request (R126 to R128). -/
theorem hmUpdate_requests (s : State) :
    (s.EmitsPps (hmUpdate s) ∧ (hmUpdate s).cd.oscLast = s.cd.oscLast) ∨
      (s.RequestsRate (hmUpdate s) ∧ (hmUpdate s).hm.system = .holdover ∧ s.hm.system ≠ .holdover) := by
  have hevents := hmUpdate_events s
  have hcd := hmUpdate_cd s
  rw [hmUpdate_system]
  by_cases hstays : updateTarget s = s.hm.system
  · rw [if_pos hstays] at hevents hcd
    exact .inl ⟨.of_eq hevents, by rw [hcd]⟩
  · rw [if_neg hstays] at hevents hcd
    cases htarget : updateTarget s with
    | ok =>
      rw [htarget] at hevents hcd
      refine .inl ⟨⟨_, hevents, by simp⟩, ?_⟩
      rw [hcd]
      dsimp only
      split <;> rfl
    | unlock =>
      rw [htarget] at hevents hcd
      exact .inl ⟨⟨_, hevents, by simp⟩, by rw [hcd]⟩
    | holdover =>
      rw [htarget] at hevents hstays
      have hrequest := (cdEnterHoldover_requestsRate s).then_pps (.of_eq hevents)
      exact .inr ⟨hrequest, rfl, fun h => hstays h.symm⟩

/-- A setter writes HealthMonitor, then updates. -/
theorem hmUpdate_withHm_atMostOnce (x : HealthMonitor) (s : State) : s.RequestsAtMostOnce (hmUpdate (s.withHm x)) := by
  obtain ⟨hpps, -⟩ | ⟨hrequest, -⟩ := hmUpdate_requests (s.withHm x)
  · exact State.EmitsPps.atMostOnce hpps
  · exact .inr hrequest

/-- Unless the system is in OK with Gps lost, an update emits PPS events only. -/
theorem hmUpdate_emitsPps (h : GpsNotLost s.hm) : s.EmitsPps (hmUpdate s) := by
  obtain ⟨hpps, -⟩ | ⟨-, hafter, hbefore⟩ := hmUpdate_requests s
  · exact hpps
  · rw [hmUpdate_system] at hafter
    exact absurd (holdover_of_nextSystem h hafter).1 hbefore

theorem setPllStatus_emitsPps (x : SubStatus) (h : GpsNotLost s.hm) : s.EmitsPps (setPllStatus x s) :=
  hmUpdate_emitsPps (s := s.withHm { s.hm with pll := x }) h

theorem setFllStatus_emitsPps (x : SubStatus) (h : GpsNotLost s.hm) : s.EmitsPps (setFllStatus x s) :=
  hmUpdate_emitsPps (s := s.withHm { s.hm with fll := x, fllWdt := if x = .ok then 0 else s.hm.fllWdt }) h

/-- The two setters that end a step emit PPS events only (R145, R155). -/
theorem setFllStatus_setPllStatus_emitsPps (x y : SubStatus) (h : GpsNotLost s.hm) :
    s.EmitsPps (setFllStatus y (setPllStatus x s)) :=
  (setPllStatus_emitsPps x h).trans (setFllStatus_emitsPps y (hmUpdate_gpsNotLost _))

theorem lockEvaluation_emitsPps (f : Int) (h : GpsNotLost s.hm) : s.EmitsPps (lockEvaluation f s) := by
  have hlatched : s.EmitsPps (lockLatched f s) := .of_eq (by rw [lockLatched_eq]; rfl)
  have hgps : GpsNotLost (lockLatched f s).hm := by rw [lockLatched_eq]; exact h
  rw [lockEvaluation_eq]
  exact hlatched.trans (setFllStatus_setPllStatus_emitsPps _ _ hgps)

/-! ## ClockDiscipline (R142, R145, R151) -/

/-- A resync makes no request (R145). -/
theorem resync_emitsNoRate (h : GpsNotLost s.hm) : s.EmitsNoRate (resync s) := by
  unfold resync
  dsimp only
  obtain ⟨es, hes, hpps⟩ := setFllStatus_setPllStatus_emitsPps .unlock .unlock
    (s := (disciplineReset .resync (s.emit .forceResync)).withCd _) h
  refine ⟨.forceResync :: es, hes.trans (by simp), fun e he => ?_⟩
  obtain rfl | he := List.mem_cons.mp he
  · exact .inl rfl
  · exact .inr (hpps e he)

/-- Before its rate command a step emits nothing and leaves CD.osc_last, the request index and the environment. -/
theorem steerLearned_unsent (p : Int) (s : State) :
    (steerLearned p s).events = s.events ∧ (steerLearned p s).cd.oscLast = s.cd.oscLast ∧
      (steerLearned p s).oscIdx = s.oscIdx ∧ (steerLearned p s).env = s.env ∧
      (steerLearned p s).cmdIndex = s.cmdIndex := by
  unfold steerLearned
  split <;> exact ⟨rfl, rfl, rfl, rfl, rfl⟩

/-- A steering step makes the one request of its rate command (R151). -/
theorem steer_requestsRate (p : Int) (h : GpsNotLost s.hm) : s.RequestsRate (steer p s) := by
  obtain ⟨hevents, hlast, -⟩ := steerLearned_unsent p s
  have hcommand : s.RequestsRate (steerCommanded p s).1 :=
    .after_pps (.of_eq hevents) (by simp) hlast (cdCommand_requestsRate _ _)
  have hbooked : (steerCommanded p s).1.EmitsPps (steerBooked p s) := .of_eq (by simp [steerBooked, steerFedBack])
  rw [steer_eq_stages]
  exact (hcommand.then_pps hbooked).then_pps (lockEvaluation_emitsPps _ (by simpa using h))

theorem cdStep_atMostOnce {p : Int} {v : Bool} {r : State × Bool} (h : GpsNotLost s.hm) (hr : cdStep p v s = .ok r) :
    s.RequestsAtMostOnce r.1 := by
  have hfiltered : s.EmitsPps (jumpFilter p s).1 := .of_eq (by simp)
  have hlast : (jumpFilter p s).1.cd.oscLast = s.cd.oscLast := by
    obtain ⟨counter, subs, hcd⟩ := jumpFilter_cd p s
    rw [hcd]
  have hgps : GpsNotLost (jumpFilter p s).1.hm := by simpa using h
  obtain rfl | rfl | rfl := cdStep_cases hr <;> dsimp only
  · exact State.EmitsPps.atMostOnce (.of_eq rfl)
  · exact .inl (.after_pps hfiltered (resync_emitsNoRate hgps))
  · exact .inr (.after_pps hfiltered (by simp) hlast (steer_requestsRate _ hgps))

/-- The aging makes a request only on its way into HOLDOVER, where no step runs (R129, R164, R165). -/
theorem tickStep_hmAge_atMostOnce {r : State × Bool} (hr : tickStep (hmAge s) = .ok r) : s.RequestsAtMostOnce r.1 := by
  obtain ⟨hpps, hlast⟩ | ⟨hrequest, hholdover, -⟩ := hmUpdate_requests (s.withHm _)
  · refine .after_pps (t := hmAge s) hpps (by simp) hlast ?_
    obtain hskip | hstep := tickStep_cases hr
    · rw [hskip]
      exact State.EmitsPps.atMostOnce (.of_eq rfl)
    · exact cdStep_atMostOnce (hmUpdate_gpsNotLost _) hstep
  · rw [tickStep_of_holdover (s := hmAge s) hholdover] at hr
    cases hr
    exact .inr (State.RequestsRate.then_pps (t := hmAge s) hrequest (.of_eq rfl))

/-! ## GpsDecoder (R111) -/

/-- A dispatched message ends in one HM.update at most. -/
theorem dispatch_atMostOnce (n : Nat) (s : State) : s.RequestsAtMostOnce (dispatch n s).1 := by
  cases hd : dispatch n s
  obtain ⟨-, gd, rfl⟩ | ⟨-, x, tb, gd, rfl⟩ := dispatch_cases hd
  · exact State.EmitsPps.atMostOnce (.of_eq rfl)
  · exact hmUpdate_withHm_atMostOnce _ (s.dispatched tb gd)

theorem gdFeed_atMostOnce {b : Byte} {r : State × FeedEvent} (hr : gdFeed b s = .ok r) : s.RequestsAtMostOnce r.1 := by
  have hfed := gdFeed_fedFrom b s
  rw [hr] at hfed
  obtain ⟨u, ⟨-, -, hcd, -, -, -, hbuild, -, -, -, -, -, hevents⟩, -, hres⟩ := hfed
  have hmoved : s.EmitsPps u := .of_eq hevents
  obtain rfl | ⟨n, rfl⟩ := hres
  · exact hmoved.atMostOnce
  · exact .after_pps hmoved hbuild (by rw [hcd]) (dispatch_atMostOnce n u)

/-! ## The statement -/

theorem effect_atMostOnce {i : Instr} (h : GpsNotLost s.hm) (hu : CommandEffect i s u) : s.RequestsAtMostOnce u := by
  cases i with
  | nop | tbTickToNs | tbToNtp | tbToUnix | tbGetDate | hmShouldRun | hmGetStatus | readReg | readPb | tbAdvance
  | hmResetGpsWdt | hmResetFllWdt | cdLeaveHoldover =>
    cases hu
    exact State.EmitsPps.atMostOnce (.of_eq (by simp))
  | reset =>
    simp only [CommandEffect] at hu
    split at hu <;> subst hu
    · exact State.EmitsPps.atMostOnce ⟨[.ppsDisable], rfl, by simp⟩
    · exact State.EmitsPps.atMostOnce (.of_eq rfl)
  | secondTick =>
    have hadvanced : s.EmitsPps (tbAdvance s) := .of_eq (by simp)
    simp only [CommandEffect] at hu
    split at hu
    · obtain ⟨r, hr, rfl⟩ := hu
      have hran := (tickStep_hmAge_atMostOnce hr).congr_right (u := r.1.withSys _) rfl
      exact .after_pps hadvanced (by simp) (by simp) hran
    · subst hu
      exact .after_pps hadvanced (by simp) (by simp) (hmUpdate_withHm_atMostOnce _ _)
  | ppsCapture tick =>
    obtain ⟨x, rfl⟩ := hu
    split <;> exact State.EmitsPps.atMostOnce (.of_eq rfl)
  | gpsFeed byte => obtain ⟨r, hr, rfl⟩ := hu; exact gdFeed_atMostOnce hr
  | tbSetDate week off tow => obtain ⟨-, rfl⟩ := hu; exact State.EmitsPps.atMostOnce (.of_eq (by simp))
  | hmSetOsc code | hmSetPll code | hmSetFll code => obtain ⟨x, -, rfl⟩ := hu; exact hmUpdate_withHm_atMostOnce _ s
  | hmSetGps code => obtain ⟨x, rfl⟩ := hu; exact hmUpdate_withHm_atMostOnce _ s
  | hmUpdate => exact hu ▸ hmUpdate_withHm_atMostOnce s.hm s
  | cdEnterHoldover => exact hu ▸ .inr (cdEnterHoldover_requestsRate s)
  | cdStep phase gpsValid => obtain ⟨r, hr, rfl⟩ := hu; exact cdStep_atMostOnce h hr
  | cfgWrite reg value =>
    obtain ⟨v, hset⟩ := hu
    obtain ⟨-, -, -, -, -, -, -, hevents⟩ := cfgSet_keeps hset
    exact State.EmitsPps.atMostOnce (.of_eq hevents)

/-- Settles O46: a command starts with no event, and its effect makes at most one request. -/
theorem rateRequestsAreBounded : Obligations.RateRequestsAreBounded := by
  intro i s t h hexec
  obtain rfl | ⟨u, r0, r1, hu, rfl⟩ := exec_effect hexec
  · exact .inl nofun
  · have hrequests := effect_atMostOnce (s := s.start) h hu
    unfold State.RequestsAtMostOnce State.EmitsNoRate State.RequestsRate at hrequests
    simpa using hrequests

end Sys2Proof.Machine

/-! SUPPORT. The step that accepted a sample, register by register (R142, R147 to R154): what each stage leaves is the
value of its rule, for every value fits its register (R11). -/

namespace Sys2Proof

/-- The largest divisor of the FLL is far below the range of its accumulator (R149). -/
theorem Build.fllRange_le {b : Build} (h : b.fits = true) : b.factorLimit * b.fllSmoothing ≤ 2 ^ 48 := by
  obtain ⟨-, hlimit⟩ := Build.factorLimit_bounds h
  calc b.factorLimit * b.fllSmoothing ≤ 2 ^ 16 * 2 ^ 32 := Nat.mul_le_mul hlimit.le (Build.fllSmoothing_le h)
    _ = 2 ^ 48 := by decide

end Sys2Proof

namespace Sys2Proof.Machine

variable {s : State} {p a : Int}

/-! ## The jump filter (R144, R145) -/

/-- A sample that is no jump clears the counter. -/
theorem jumpFilter_of_no_jump
    (h : s.cd.prevValid = false ∨ (p - s.cd.prevPhase.toInt).natAbs < s.build.jumpThresholdNs) :
    jumpFilter p s = (s.withCd { s.cd with jumpCounter := 0 }, p) := by
  refine if_neg fun hjump => ?_
  simp only [isJump, Bool.and_eq_true, decide_eq_true_eq] at hjump
  obtain ⟨hvalid, hfar⟩ := hjump
  obtain hinvalid | hnear := h
  · rw [hvalid] at hinvalid; cases hinvalid
  · omega

theorem isJump_of_far (hvalid : s.cd.prevValid = true)
    (hfar : s.build.jumpThresholdNs ≤ (p - s.cd.prevPhase.toInt).natAbs) : isJump s p = true := by
  simp [isJump, hvalid, hfar]

/-- A jump below the cap is counted, and the previous sample goes on in its place. -/
theorem jumpFilter_of_absorbed (hvalid : s.cd.prevValid = true)
    (hfar : s.build.jumpThresholdNs ≤ (p - s.cd.prevPhase.toInt).natAbs)
    (hcounter : s.cd.jumpCounter.toNat < s.build.jumpCap) :
    jumpFilter p s = (s.withCd { s.cd with
      jumpCounter := BitVec.ofNat 8 (s.cd.jumpCounter.toNat + 1), jumpSubs := wrapAdd32 s.cd.jumpSubs 1 },
      s.cd.prevPhase.toInt) := by
  rw [jumpFilter, if_pos (isJump_of_far hvalid hfar), if_pos hcounter]

/-- A jump at the cap goes on as it is. -/
theorem jumpFilter_of_cap (hvalid : s.cd.prevValid = true)
    (hfar : s.build.jumpThresholdNs ≤ (p - s.cd.prevPhase.toInt).natAbs)
    (hcounter : s.cd.jumpCounter.toNat = s.build.jumpCap) : jumpFilter p s = (s, p) := by
  rw [jumpFilter, if_pos (isJump_of_far hvalid hfar), if_neg (by omega)]

/-- The jump filter writes its counter and its count of substitutions, nothing else. -/
theorem jumpFilter_eq_withCd (p : Int) (s : State) : ∃ counter subs,
    (jumpFilter p s).1 = s.withCd { s.cd with jumpCounter := counter, jumpSubs := subs } := by
  unfold jumpFilter
  split
  · split
    · exact ⟨_, _, rfl⟩
    · exact ⟨s.cd.jumpCounter, s.cd.jumpSubs, rfl⟩
  · exact ⟨_, s.cd.jumpSubs, rfl⟩

/-! ## What CD_STEP does with a valid fix (R142, R143, R158) -/

theorem exec_cdStep_of_ok {v : Bool} {r : State × Bool} (h : cdStep p v s.start = .ok r) :
    exec (.cdStep p v) s = .next (r.1.answer (wrap64 (boolCode r.2)) 0) := by
  simp only [exec, execCdStep, h]

theorem cdStep_of_accepted {u : State} (hfilter : jumpFilter p s = (u, a))
    (haccepted : needsResync u a = false) (hfault : steerFault u = none) :
    cdStep p true s = .ok (steer a u, true) := by
  simp only [cdStep, hfilter, haccepted, hfault, if_pos, Bool.false_eq_true, if_false]

theorem cdStep_of_needsResync {u : State} (hfilter : jumpFilter p s = (u, a)) (hneeds : needsResync u a = true) :
    cdStep p true s = .ok (resync u, true) := by
  simp only [cdStep, hfilter, hneeds, if_pos]

theorem exec_cdStep_of_ran {t : State} (h : cdStep p true s.start = .ok (t, true)) :
    exec (.cdStep p true) s = .next (t.answer 1 0) :=
  exec_cdStep_of_ok h

theorem exec_cdStep_of_steer (hpassed : (jumpFilter p s.start).2 = a)
    (haccepted : needsResync (jumpFilter p s.start).1 a = false)
    (hfault : steerFault (jumpFilter p s.start).1 = none) :
    exec (.cdStep p true) s = .next ((steer a (jumpFilter p s.start).1).answer 1 0) :=
  exec_cdStep_of_ran (cdStep_of_accepted (Prod.ext rfl hpassed) haccepted hfault)

theorem exec_cdStep_of_resync
    (hneeds : needsResync (jumpFilter p s.start).1 (jumpFilter p s.start).2 = true) :
    exec (.cdStep p true) s = .next ((resync (jumpFilter p s.start).1).answer 1 0) :=
  exec_cdStep_of_ran (cdStep_of_needsResync rfl hneeds)

theorem exec_cdStep_of_accepts (hlegal : s.build.legal = true) (h : s.Inv) (ha : s.Accepts p a) :
    exec (.cdStep p true) s = .next ((steer a (jumpFilter p s.start).1).answer 1 0) ∧
      (jumpFilter p s.start).1.PreInv := by
  have hstart : s.start.Inv := h.congr rfl rfl rfl rfl rfl rfl rfl rfl
  have hpre := jumpFilter_preInv (s := s.start) p hlegal hstart.preInv
  obtain ⟨hpassed, haccepted⟩ := accepts_spec (s := s.start) ha
  exact ⟨exec_cdStep_of_steer hpassed haccepted (steerFault_eq_none (by simpa using hlegal) hpre), hpre⟩

/-! ## ClockDiscipline after a steering step -/

/-- ClockDiscipline after a steering step, in terms of the stages that write it (R147 to R154): the lock evaluation
leaves it as the bookkeeping did, but for the factors (R126, R155). -/
theorem steer_cd (p : Int) (h : GpsNotLost s.hm) : ∃ pllFactor fllFactor pllRamp head count,
    (steer p s).cd = { s.cd with
      prevPhase := BitVec.ofInt 32 p, prevValid := true,
      filtQ := (lowPass p s).1.cd.filtQ, filtValid := true, filtered := BitVec.ofInt 32 (lowPass p s).2,
      pllAcc := (steerFedBack p s).cd.pllAcc, pllFactor := pllFactor, pllRamp := pllRamp,
      fllRate := (steerLearned p s).cd.fllRate, fllAcc := (steerLearned p s).cd.fllAcc, fllFactor := fllFactor,
      fllRamp := if fllActive s then rampAfter s.build.fllRampInterval s.cd.fllRamp else s.cd.fllRamp,
      fllUpdates := (steerLearned p s).cd.fllUpdates,
      oscLast := (steerCommanded p s).1.cd.oscLast, realizedLast := BitVec.ofInt 64 (steerCommanded p s).2,
      secondsSinceReset := satInc32 s.cd.secondsSinceReset, histHead := head, histCount := count,
      ditherLast := BitVec.ofInt 8 (steerDither p s) } := by
  have hfactors := lockEvaluation_cd_but_factors (s := steerBooked p s) (lowPass p s).2 (by simpa using h)
  rw [← steer_eq_stages] at hfactors
  obtain ⟨head, count, hbooked⟩ := bookkeeping_cd p (lowPass p s).2 (steerDither p s)
    (ramps (lowPass p s).2 (fllActive s) (steerFedBack p s))
  obtain ⟨-, -, -, hramp, -⟩ := steerBooked_ramps p s
  refine ⟨(steer p s).cd.pllFactor, (steer p s).cd.fllFactor, (steerBooked p s).cd.pllRamp, head, count, ?_⟩
  calc (steer p s).cd
      = { (steerBooked p s).cd with
          pllFactor := (steer p s).cd.pllFactor, fllFactor := (steer p s).cd.fllFactor } := by rw [← hfactors]
    _ = _ := by
        rw [← hramp, steerBooked, hbooked, ramps_cd]
        unfold steerFedBack steerCommanded steerLearned
        split <;> rfl

/-! ## The filter (R147) -/

/-- The filter in terms of its new state `q`: the scaled sample at first, later a step of the gain towards it. -/
theorem lowPass_eq {q : Int} (hfirst : s.cd.filtValid = false → q = p * 2 ^ s.build.filtFracBits)
    (hlater : s.cd.filtValid = true →
      q = s.cd.filtQ.toInt + tdiv (p * 2 ^ s.build.filtFracBits - s.cd.filtQ.toInt) (filterDivisor s)) :
    (lowPass p s).1.cd.filtQ = BitVec.ofInt 64 q ∧ (lowPass p s).2 = tdiv q (2 ^ s.build.filtFracBits) := by
  cases hvalid : s.cd.filtValid with
  | false => simp [lowPass, hvalid, hfirst hvalid]
  | true => simp [lowPass, hvalid, hlater hvalid]

/-- A filter state whose output is within the samples' range fits its register. -/
theorem filterState_exact {q : Int} (hfits : s.build.fits = true)
    (hf : (tdiv q (2 ^ s.build.filtFracBits)).natAbs ≤ s.build.resyncPhaseNs) :
    (BitVec.ofInt 64 q).toInt = q := by
  have hrange := Build.filterRange_lt hfits
  have hscale : 2 ^ s.build.filtFracBits ≤ 2 ^ 32 :=
    Nat.pow_le_pow_right (by decide) (by have := hfits; simp only [Build.fits, decide_eq_true_eq] at this; omega)
  have hquotient : (tdiv q (2 ^ s.build.filtFracBits)).natAbs = q.natAbs / 2 ^ s.build.filtFracBits := by
    rw [tdiv, Int.natAbs_tdiv, Int.natAbs_pow]
    rfl
  have hq : q.natAbs < (s.build.resyncPhaseNs + 1) * 2 ^ s.build.filtFracBits :=
    (Nat.div_lt_iff_lt_mul (Nat.two_pow_pos _)).mp (by omega)
  rw [Nat.succ_mul] at hq
  exact toInt_ofInt64 (by omega) (by omega)

/-! ## The feedback (R152) -/

/-- The feedback keeps the remainder of the slew and adds the carry, in factors (R148, R152). -/
theorem pllFeedback_pllAcc_eq {slew : Int} (realized dither : Int) (hfits : s.build.fits = true)
    (hfactor : 1 ≤ s.cd.pllFactor.toNat) (hslew : slew = tdiv s.cd.pllAcc.toInt s.cd.pllFactor.toNat) :
    (pllFeedback slew realized dither s).cd.pllAcc.toInt = (s.cd.pllAcc.toInt - slew * s.cd.pllFactor.toNat) +
      clamp (slew - (realized - s.cd.fllRate.toInt - dither)) (-(s.build.pllCarryMax : Int)) s.build.pllCarryMax *
        s.cd.pllFactor.toNat := by
  have hcarrymax := Build.pllCarryMax_le hfits
  have hfactorlt := s.cd.pllFactor.isLt
  obtain ⟨hrem, -⟩ := tdiv_rem s.cd.pllAcc.toInt (b := s.cd.pllFactor.toNat) (by omega)
  rw [← hslew, Int.natAbs_natCast] at hrem
  have hnew := rem_add_carry_lt hrem
    (clamp_natAbs_le (slew - (realized - s.cd.fllRate.toInt - dither)) s.build.pllCarryMax)
  have hrange : (s.build.pllCarryMax + 1) * s.cd.pllFactor.toNat ≤ (2 ^ 32 + 1) * 2 ^ 16 :=
    Nat.mul_le_mul (by omega) (by omega)
  exact toInt_ofInt64 (by omega) (by omega)

/-- The slew's accumulator fits its register (R148). -/
theorem slewAcc_exact {f : Int} (hfits : s.build.fits = true) (hbounded : DisciplineBounded s.build s.cd)
    (hf : f.natAbs ≤ s.build.resyncPhaseNs) :
    (BitVec.ofInt 64 (s.cd.pllAcc.toInt - 1000 * f)).toInt = s.cd.pllAcc.toInt - 1000 * f := by
  obtain ⟨-, hlimit⟩ := Build.factorLimit_bounds hfits
  have hcarrymax := Build.pllCarryMax_le hfits
  have hphase := Build.resyncPhaseNs_le hfits
  have hheld := hbounded.pllAcc
  have hrange : (s.build.pllCarryMax + 1) * s.build.factorLimit ≤ (2 ^ 32 + 1) * 2 ^ 16 :=
    Nat.mul_le_mul (by omega) (by omega)
  exact toInt_ofInt64 (by omega) (by omega)

/-- The feedback finds the learned rate as the FLL left it (R151). -/
theorem steerCommanded_fllRate (p : Int) (s : State) :
    (steerCommanded p s).1.cd.fllRate = (steerLearned p s).cd.fllRate := rfl

/-- The PLL's accumulator after a steering step (R148, R152). -/
theorem steerFedBack_pllAcc_eq {f acc slew : Int} (hfits : s.build.fits = true)
    (hbounded : DisciplineBounded s.build s.cd) (hfactor : 1 ≤ s.cd.pllFactor.toNat)
    (hf : f.natAbs ≤ s.build.resyncPhaseNs) (hout : (lowPass p s).2 = f) (hacc : acc = s.cd.pllAcc.toInt - 1000 * f)
    (hslew : slew = tdiv acc s.cd.pllFactor.toNat) :
    (steerSlewed p s).2 = slew ∧ (steerFedBack p s).cd.pllAcc.toInt = (acc - slew * s.cd.pllFactor.toNat) +
      clamp (slew - ((steerCommanded p s).2 - (steerLearned p s).cd.fllRate.toInt - steerDither p s))
        (-(s.build.pllCarryMax : Int)) s.build.pllCarryMax * s.cd.pllFactor.toNat := by
  have hrate : (steerSlewed p s).2 = slew := by rw [hslew, hacc, ← hout]; rfl
  have hexact := slewAcc_exact hfits hbounded hf
  obtain ⟨hheld, hkept⟩ := steerCommanded_pll p s
  rw [hout] at hheld
  have hbuild : (steerCommanded p s).1.build = s.build := by simp [steerCommanded]
  have hfed := pllFeedback_pllAcc_eq (s := (steerCommanded p s).1) (slew := slew) (steerCommanded p s).2
    (steerDither p s) (by rwa [hbuild]) (by rwa [hkept]) (by rw [hheld, hexact, hkept, ← hacc, hslew])
  rw [hheld, hexact, ← hacc, hkept, hbuild, steerCommanded_fllRate] at hfed
  refine ⟨hrate, ?_⟩
  rwa [steerFedBack, hrate]

/-! ## The rate command (R151) -/

/-- The rate that a step commands: the slew, the learned rate and the dither (R142, R151). -/
def steerRate (p : Int) (s : State) : Int :=
  (steerSlewed p s).2 + (steerLearned p s).cd.fllRate.toInt + steerDither p s

/-- The rate command of a step is that of the state before it: neither the filter nor the loops touch what it reads. -/
theorem steerCommanded_eq (p : Int) (s : State) :
    (steerCommanded p s).1.events = (cdCommand (steerRate p s) s).1.events ∧
      (steerCommanded p s).1.cd.oscLast = (cdCommand (steerRate p s) s).1.cd.oscLast ∧
      (steerCommanded p s).2 = (cdCommand (steerRate p s) s).2 := by
  obtain ⟨hevents, hlast, hidx, henv, hindex⟩ := steerLearned_unsent p s
  obtain ⟨-, -, -, -, hbuild⟩ := steerLearned_keeps p s
  have hrequest (rate : Int) : oscRequest (steerLearned p s) rate = oscRequest s rate := by
    simp only [oscRequest, hlast, hbuild]
  have hreply (req : Int) : (steerLearned p s).oscReply req = s.oscReply req := by
    simp only [State.oscReply, henv, hidx, hindex]
  have htrim (rate applied : Int) : timerTrim (steerLearned p s) rate applied = timerTrim s rate applied := by
    simp only [timerTrim, hbuild]
  change (cdCommand (steerRate p s) (steerLearned p s)).1.events = _ ∧
    (cdCommand (steerRate p s) (steerLearned p s)).1.cd.oscLast = _ ∧
    (cdCommand (steerRate p s) (steerLearned p s)).2 = _
  refine ⟨?events, ?oscLast, ?realized⟩
  case events => rw [cdCommand_events_eq, cdCommand_events_eq, hrequest, hreply, htrim, hevents, hbuild]
  case oscLast => simp only [cdCommand, State.withCd_cd, hrequest, hreply]
  case realized => simp only [cdCommand, hrequest, hreply, htrim, hbuild]

/-- The events of a steering step: those of its rate command, then PPS events (R151, R155). -/
theorem steer_events (p : Int) (h : GpsNotLost s.hm) : ∃ es,
    (steer p s).events = (cdCommand (steerRate p s) s).1.events ++ es ∧ ∀ e ∈ es, e = .ppsEnable ∨ e = .ppsDisable := by
  obtain ⟨hevents, -⟩ := steerCommanded_eq p s
  have hbooked : (steerBooked p s).events = (steerCommanded p s).1.events := by simp [steerBooked, steerFedBack]
  rw [steer_eq_stages, ← hevents, ← hbooked]
  exact lockEvaluation_emitsPps _ (by simpa using h)

/-- Both registers of the rate command hold its values (R151). -/
theorem cdCommand_exact (rate : Int) (hfits : s.build.fits = true) :
    (cdCommand rate s).1.cd.oscLast.toInt = s.oscReply (oscRequest s rate) ∧
      (BitVec.ofInt 64 (cdCommand rate s).2).toInt = (cdCommand rate s).2 := by
  obtain ⟨hlow, hhigh⟩ := oscReply_bounds s (oscRequest s rate)
  have hrealized := cdCommand_realized_le rate s
  have htrim := Build.trimRange_le hfits
  exact ⟨toInt_ofInt32 hlow hhigh, toInt_ofInt64 (by omega) (by omega)⟩

/-! ## The FLL and the dither (R149, R150) -/

theorem steerDither_bounds (p : Int) (s : State) : -1 ≤ steerDither p s ∧ steerDither p s ≤ 1 := by
  have hsign (r : Int) : -1 ≤ r.sign ∧ r.sign ≤ 1 := by
    obtain h | h | h := Int.lt_trichotomy r 0
    · simp [Int.sign_eq_neg_one_of_neg h]
    · simp [h]
    · simp [Int.sign_eq_one_of_pos h]
  unfold steerDither ditherTerm
  dsimp only
  split
  · split
    · exact hsign _
    · decide
  · decide

/-- The FLL's registers after an update (R149): the remainder, smaller than the divisor, and the clamped rate. -/
theorem fllUpdate_exact {eps D delta r rate : Int} (hrange : fllDivisor s ≤ 2 ^ 48) (hdivisor : 1 ≤ fllDivisor s)
    (hmax : s.cfg.fllRateMax.toNat < 2 ^ 31)
    (heps : eps = s.cd.realizedLast.toInt - s.cd.fllRate.toInt - 1000 * (p - s.cd.prevPhase.toInt))
    (hD : D = fllDivisor s) (hdelta : delta = tdiv (s.cd.fllAcc.toInt + eps) D)
    (hr : r = s.cd.fllAcc.toInt + eps - delta * D)
    (hrate : rate = clamp (s.cd.fllRate.toInt + delta) (-(s.cfg.fllRateMax.toNat : Int)) s.cfg.fllRateMax.toNat) :
    (fllUpdate p s).cd.fllAcc.toInt = r ∧ r.natAbs < D ∧ (fllUpdate p s).cd.fllRate.toInt = rate := by
  obtain ⟨hrem, -⟩ := tdiv_rem (s.cd.fllAcc.toInt + eps) (b := D) (by omega)
  rw [← hdelta, ← hr] at hrem
  subst hD
  refine ⟨?_, by omega, ?_⟩
  · have hexact := toInt_ofInt64 (v := r) (by omega) (by omega)
    rw [← hexact, hr, hdelta, heps]
    rfl
  · have hexact := ofInt32_clamp_toInt (v := s.cd.fllRate.toInt + delta) (lo := -(s.cfg.fllRateMax.toNat : Int))
      (hi := s.cfg.fllRateMax.toNat) (by omega) (by omega) (by omega)
    rw [hrate, ← hexact, hdelta, heps]
    rfl

/-- The dither term in terms of the draw, the divisor and the remainder (R150). -/
theorem ditherTerm_cases {r D : Int} (hr : s.cd.fllAcc.toInt = r) (hD : D = fllDivisor s) :
    ((s.ditherU : Int) % D < r.natAbs → ditherTerm s = r.sign) ∧
      (¬ (s.ditherU : Int) % D < r.natAbs → ditherTerm s = 0) := by
  have hdraw : ((s.ditherU : Int) % D < r.natAbs) ↔ s.ditherU % fllDivisor s < r.natAbs := by
    rw [hD, ← Int.natCast_mod, Int.ofNat_lt]
  subst hr
  exact ⟨fun h => if_pos (hdraw.mp h), fun h => if_neg (mt hdraw.mpr h)⟩

theorem ditherU_lt (s : State) : s.ditherU < 2 ^ 32 := by
  unfold State.ditherU
  split <;> exact BitVec.isLt _

end Sys2Proof.Machine
namespace Sys2Proof.Machine

variable {s u : State} {p a : Int}

/-! ## The registers after a steering step -/

/-- The filter's registers (R147). -/
theorem steer_filter {q f : Int} (hlegal : s.build.legal = true) (hfits : s.build.fits = true)
    (hbounded : DisciplineBounded s.build s.cd) (hgps : GpsNotLost s.hm) (ha : a.natAbs ≤ s.build.resyncPhaseNs)
    (hfirst : s.cd.filtValid = false → q = a * 2 ^ s.build.filtFracBits)
    (hlater : s.cd.filtValid = true →
      q = s.cd.filtQ.toInt + tdiv (a * 2 ^ s.build.filtFracBits - s.cd.filtQ.toInt) (filterDivisor s))
    (hf : f = tdiv q (2 ^ s.build.filtFracBits)) :
    (lowPass a s).2 = f ∧ f.natAbs ≤ s.build.resyncPhaseNs ∧ (steer a s).cd.filtQ.toInt = q ∧
      (steer a s).cd.filtValid = true ∧ (steer a s).cd.filtered.toInt = f := by
  obtain ⟨hstate, hout⟩ := lowPass_eq hfirst hlater
  obtain ⟨-, hbound⟩ := lowPass_bounded hlegal hfits hbounded ha
  obtain ⟨_, _, _, _, _, hcd⟩ := steer_cd a hgps
  have hrange := Build.resyncPhaseNs_le hfits
  rw [hout, ← hf] at hbound
  rw [hcd, hstate, hout, ← hf]
  exact ⟨rfl, hbound, filterState_exact hfits (hf ▸ hbound), rfl, toInt_ofInt32 (by omega) (by omega)⟩

/-- The events and the registers of the rate command, for the rate `total` that the step commands (R151). -/
theorem steer_command {total : Int} (hfits : s.build.fits = true) (hgps : GpsNotLost s.hm)
    (htotal : steerRate a s = total) :
    ∃ (applied tu realized : Int) (es : List Event),
      applied = s.oscReply (oscRequest s total) ∧ tu = timerTrim s total applied ∧
      realized = applied + tu * s.build.timerGranPpt ∧ (steerCommanded a s).2 = realized ∧
      (steer a s).events = s.events ++
        .oscRate (oscRequest s total) applied :: .timerPeriod (s.build.timerPeriodNominal - tu) :: es ∧
      (∀ e ∈ es, e = .ppsEnable ∨ e = .ppsDisable) ∧
      (steer a s).cd.oscLast.toInt = applied ∧ (steer a s).cd.realizedLast.toInt = realized := by
  subst htotal
  obtain ⟨es, hevents, hpps⟩ := steer_events a hgps
  obtain ⟨-, hlast, hrealized⟩ := steerCommanded_eq a s
  obtain ⟨hlastExact, hrealizedExact⟩ := cdCommand_exact (s := s) (steerRate a s) hfits
  obtain ⟨_, _, _, _, _, hcd⟩ := steer_cd a hgps
  refine ⟨_, _, _, es, rfl, rfl, rfl, hrealized, ?_, hpps, ?_, ?_⟩
  · rw [hevents, cdCommand_events_eq, List.append_assoc]
    rfl
  · rw [hcd, hlast]
    exact hlastExact
  · rw [hcd, hrealized]
    exact hrealizedExact

/-- The bookkeeping's registers but for the ring (R154). -/
theorem steer_bookkeeping (hfits : s.build.fits = true) (hgps : GpsNotLost s.hm)
    (ha : a.natAbs ≤ s.build.resyncPhaseNs) :
    (steer a s).cd.prevPhase.toInt = a ∧ (steer a s).cd.prevValid = true ∧
      (steer a s).cd.ditherLast.toInt = steerDither a s ∧
      (steer a s).cd.secondsSinceReset.toNat = min (s.cd.secondsSinceReset.toNat + 1) (2 ^ 32 - 1) := by
  obtain ⟨_, _, _, _, _, hcd⟩ := steer_cd a hgps
  have hrange := Build.resyncPhaseNs_le hfits
  obtain ⟨hlow, hhigh⟩ := steerDither_bounds a s
  rw [hcd]
  exact ⟨toInt_ofInt32 (by omega) (by omega), rfl, toInt_ofInt8 (by omega) (by omega), satInc32_toNat _⟩

/-- The rest of ClockDiscipline but for the factors, the PLL's ramp and the ring. -/
theorem steer_loops (a : Int) (hgps : GpsNotLost s.hm) :
    (steer a s).cd.pllAcc = (steerFedBack a s).cd.pllAcc ∧ (steer a s).cd.fllRate = (steerLearned a s).cd.fllRate ∧
      (steer a s).cd.fllAcc = (steerLearned a s).cd.fllAcc ∧
      (steer a s).cd.fllUpdates = (steerLearned a s).cd.fllUpdates ∧
      (steer a s).cd.fllRamp =
        (if fllActive s then rampAfter s.build.fllRampInterval s.cd.fllRamp else s.cd.fllRamp) ∧
      (steer a s).cd.jumpCounter = s.cd.jumpCounter ∧ (steer a s).cd.jumpSubs = s.cd.jumpSubs ∧
      (steer a s).cd.resyncCount = s.cd.resyncCount ∧ (steer a s).cd.skipped = s.cd.skipped := by
  obtain ⟨_, _, _, _, _, hcd⟩ := steer_cd a hgps
  rw [hcd]
  exact ⟨rfl, rfl, rfl, rfl, rfl, rfl, rfl, rfl, rfl⟩

/-- Before the settling period has passed the FLL stands still, and there is no dither (R142). -/
theorem steer_settling (a : Int) (h : fllActive s = false) :
    (steerLearned a s).cd.fllRate = s.cd.fllRate ∧ (steerLearned a s).cd.fllAcc = s.cd.fllAcc ∧
      (steerLearned a s).cd.fllUpdates = s.cd.fllUpdates ∧ steerDither a s = 0 := by
  simp only [steerLearned, steerDither, h]
  exact ⟨rfl, rfl, rfl, rfl⟩

/-- Once it has passed, the FLL updates on the state that the slew left, which has the FLL's registers of before, and the
dither term follows (R142, R149, R150). -/
theorem steer_settled (a : Int) (h : fllActive s = true) :
    steerLearned a s = fllUpdate a (steerSlewed a s).1 ∧ steerDither a s = ditherTerm (steerLearned a s) := by
  simp only [steerLearned, steerDither, h]
  exact ⟨rfl, rfl⟩

/-- The FLL's registers and the dither term of a step after the settling period (R149, R150): the slew leaves what the FLL
reads. -/
theorem steer_fll {eps D delta r rate : Int} (hlegal : s.build.legal = true) (hfits : s.build.fits = true) (h : s.PreInv)
    (hactive : fllActive s = true)
    (heps : eps = s.cd.realizedLast.toInt - s.cd.fllRate.toInt - 1000 * (a - s.cd.prevPhase.toInt))
    (hD : D = fllDivisor s) (hdelta : delta = tdiv (s.cd.fllAcc.toInt + eps) D)
    (hr : r = s.cd.fllAcc.toInt + eps - delta * D)
    (hrate : rate = clamp (s.cd.fllRate.toInt + delta) (-(s.cfg.fllRateMax.toNat : Int)) s.cfg.fllRateMax.toNat) :
    ((steerLearned a s).cd.fllAcc.toInt = r ∧ r.natAbs < D) ∧ (steerLearned a s).cd.fllRate.toInt = rate ∧
      (steerLearned a s).cd.fllUpdates.toNat = min (s.cd.fllUpdates.toNat + 1) (2 ^ 32 - 1) ∧
      (((steerLearned a s).ditherU : Int) % D < r.natAbs → steerDither a s = r.sign) ∧
      (¬ ((steerLearned a s).ditherU : Int) % D < r.natAbs → steerDither a s = 0) := by
  obtain ⟨hdivisor, hlimit⟩ := fllDivisor_bounds hlegal h
  obtain ⟨-, hratelimit⟩ := Build.fllRateLimit_bounds hfits
  have hmax := h.config.rateMax
  obtain ⟨hlearned, hdither⟩ := steer_settled a hactive
  obtain ⟨hacc, hrem, hlearnedRate⟩ := fllUpdate_exact (s := (steerSlewed a s).1) (p := a) 
    (hlimit.trans (Build.fllRange_le hfits)) hdivisor (show s.cfg.fllRateMax.toNat < 2 ^ 31 by omega) heps hD hdelta hr hrate
  rw [← hlearned] at hacc hlearnedRate
  have hupdates : (steerLearned a s).cd.fllUpdates = satInc32 s.cd.fllUpdates := by rw [hlearned]; rfl
  have hD' : D = fllDivisor (steerLearned a s) := by rw [hD, hlearned]; rfl
  rw [hupdates, hdither]
  exact ⟨⟨hacc, hrem⟩, hlearnedRate, satInc32_toNat _, ditherTerm_cases hacc hD'⟩

/-! ## The step of an accepted sample -/

/-- The state in which a step of `s` steers: the command started, and the jump filter's registers as it leaves them. -/
def State.passing (s : State) (counter : Byte) (subs : Word) : State :=
  s.start.withCd { s.cd with jumpCounter := counter, jumpSubs := subs }

/-- CD_STEP of an accepted sample steers on it. -/
theorem exec_cdStep_accepted (hlegal : s.build.legal = true) (h : s.Inv) (hb : s.Bounded) (ha : s.Accepts p a) :
    ∃ counter subs, exec (.cdStep p true) s = .next ((steer a (s.passing counter subs)).answer 1 0) ∧
      (s.passing counter subs).PreInv ∧ DisciplineBounded s.build (s.passing counter subs).cd := by
  obtain ⟨hexec, hpre⟩ := exec_cdStep_of_accepts hlegal h ha
  obtain ⟨counter, subs, hu⟩ := jumpFilter_eq_withCd p s.start
  rw [hu] at hexec hpre
  exact ⟨counter, subs, hexec, hpre, hb.discipline.of_unranged _ _ _ _ _ _ _⟩

/-- The first reply given answers the first request of a command (R17, R151). -/
theorem oscReply_of_given {r : Word} {rs : List Word} (hidx : s.oscIdx = 0) (hgiven : s.env.oscReplies = r :: rs)
    (req : Int) : s.oscReply req = r.toInt := by
  simp [State.oscReply, hidx, hgiven]

/-- What CD_STEP leaves alone, as the two statements about its registers have it. -/
theorem exec_cdStep_keeps {v : Bool} {t : State} (h : exec (.cdStep p v) s = .next t) :
    t.tb = s.tb ∧ t.gd = s.gd ∧ t.sys = s.sys ∧ t.cfg = s.cfg ∧ (∀ k, Cells.read t.pb k = Cells.read s.pb k) ∧
      s.KeepsHost t := by
  obtain ⟨r, hr, rfl⟩ := exec_cdStep_next h
  obtain ⟨htb, hgd, hsys, hcfg, hpb, hhost⟩ := cdStep_keeps hr
  exact ⟨htb, hgd, hsys, hcfg, fun k => congrArg (Cells.read · k) hpb, hhost⟩

/-- Settles O40: each register is its stage's, in the state that the jump filter left; there the FLL stands still. -/
theorem stepBeforeSettling : Obligations.StepBeforeSettling := by
  intro s p a dv q f acc slew hlegal hfits h hb haccepts hsettling hdv hfirst hlater hf hacc hslew
  subst hdv
  obtain ⟨counter, subs, hexec, hpre, hbounded⟩ := exec_cdStep_accepted hlegal h hb haccepts
  obtain ⟨-, ha, -⟩ := haccepts
  have hgps : GpsNotLost (s.passing counter subs).hm := h.gpsNotLost
  have hactive : fllActive (s.passing counter subs) = false := decide_eq_false (Nat.not_le.mpr hsettling)
  obtain ⟨hkeptRate, hkeptAcc, hkeptUpdates, hdither⟩ := steer_settling a hactive
  obtain ⟨hpllAcc, hfllRate, hfllAcc, hupdates, hramp, -⟩ := steer_loops a hgps
  obtain ⟨hout, hfbound, hfiltQ, hfiltValid, hfiltered⟩ := steer_filter (s := s.passing counter subs)
    hlegal hfits hbounded hgps ha hfirst hlater hf
  obtain ⟨hslewed, hfedBack⟩ := steerFedBack_pllAcc_eq (s := s.passing counter subs) hfits
    hbounded (hpre.config.pllMin.trans hpre.discipline.pllLow) hfbound hout hacc hslew
  have htotal : steerRate a (s.passing counter subs) = slew + s.cd.fllRate.toInt := by
    rw [steerRate, hslewed, hkeptRate, hdither, Int.add_zero]
    rfl
  obtain ⟨applied, tu, realized, es, happlied, htu, hrealized, hcommanded, hevents, hpps, hlast, hrealizedLast⟩ :=
    steer_command (s := s.passing counter subs) hfits hgps htotal
  obtain ⟨hprev, hvalid, hditherLast, hseconds⟩ := steer_bookkeeping (s := s.passing counter subs) hfits hgps ha
  rw [hcommanded, hkeptRate, hdither, Int.sub_zero, ← hpllAcc] at hfedBack
  refine ⟨_, oscRequest (s.passing counter subs) (slew + s.cd.fllRate.toInt), applied, tu, realized, es, hexec, ?_⟩
  rw [State.answer_resp, State.answer_events, State.answer_cd]
  refine ⟨rfl, rfl, fun r rs hgiven => ?reply, htu, hrealized, hevents, hpps, hfiltQ, hfiltValid, hfiltered, hlast,
    hrealizedLast, hfedBack, hfllRate.trans hkeptRate, hfllAcc.trans hkeptAcc, hupdates.trans hkeptUpdates, ?ramp,
    ?dither, hprev, hvalid, hseconds, exec_cdStep_keeps hexec⟩
  case reply => exact happlied.trans (oscReply_of_given (s := s.passing counter subs) rfl hgiven _)
  case ramp => exact hramp.trans (if_neg (by simp [hactive]))
  case dither => exact BitVec.eq_of_toInt_eq (hditherLast.trans hdither)

/-- Settles O41: each register is its stage's, in the state that the jump filter left; the FLL's come first, as the rate
command takes its rate and dither from them. -/
theorem stepWithFll : Obligations.StepWithFll := by
  intro s p a dv q f acc slew eps D delta r rate hlegal hfits h hb haccepts hsettled hdv hfirst hlater hf hacc hslew
    heps hD hdelta hr hrate
  subst hdv
  obtain ⟨counter, subs, hexec, hpre, hbounded⟩ := exec_cdStep_accepted hlegal h hb haccepts
  obtain ⟨-, ha, -⟩ := haccepts
  have hgps : GpsNotLost (s.passing counter subs).hm := h.gpsNotLost
  have hactive : fllActive (s.passing counter subs) = true := decide_eq_true hsettled
  have hD' : D = fllDivisor (s.passing counter subs) := hD
  obtain ⟨⟨hlearnedAcc, hrem⟩, hlearnedRate, hlearnedUpdates, hdrawn, hundrawn⟩ :=
    steer_fll (s := s.passing counter subs) hlegal hfits hpre hactive heps hD' hdelta hr hrate
  obtain ⟨hpllAcc, hfllRate, hfllAcc, hupdates, -⟩ := steer_loops a hgps
  obtain ⟨hout, hfbound, hfiltQ, hfiltValid, hfiltered⟩ := steer_filter (s := s.passing counter subs)
    hlegal hfits hbounded hgps ha hfirst hlater hf
  obtain ⟨hslewed, hfedBack⟩ := steerFedBack_pllAcc_eq (s := s.passing counter subs) hfits
    hbounded (hpre.config.pllMin.trans hpre.discipline.pllLow) hfbound hout hacc hslew
  have htotal : steerRate a (s.passing counter subs) = slew + rate + steerDither a (s.passing counter subs) := by
    rw [steerRate, hslewed, hlearnedRate]
  obtain ⟨applied, tu, realized, es, happlied, htu, hrealized, hcommanded, hevents, hpps, hlast, hrealizedLast⟩ :=
    steer_command (s := s.passing counter subs) hfits hgps htotal
  obtain ⟨hprev, hvalid, hditherLast, hseconds⟩ := steer_bookkeeping (s := s.passing counter subs) hfits hgps ha
  obtain ⟨-, -, -, henv, -⟩ := steerLearned_unsent a (s.passing counter subs)
  rw [hcommanded, hlearnedRate, ← hpllAcc] at hfedBack
  refine ⟨_, (steerLearned a (s.passing counter subs)).ditherU, steerDither a (s.passing counter subs),
    oscRequest (s.passing counter subs) (slew + rate + steerDither a (s.passing counter subs)), applied, tu, realized, es,
    hexec, ?_⟩
  rw [State.answer_resp, State.answer_events, State.answer_cd, hfllRate, hfllAcc, hupdates]
  refine ⟨rfl, ditherU_lt _, fun x hgiven => ?draw, hdrawn, hundrawn, hlearnedAcc, hrem, hlearnedRate,
    hrate ▸ clamp_natAbs_le _ _, hlearnedUpdates, hditherLast, rfl, fun x xs hgiven => ?reply, htu, hrealized, hevents,
    hpps, hfiltQ, hfiltValid, hfiltered, hlast, hrealizedLast, hfedBack, hprev, hvalid, hseconds,
    exec_cdStep_keeps hexec⟩
  case draw =>
    have hheld : (steerLearned a (s.passing counter subs)).env.ditherU = some x := by rw [henv]; exact hgiven
    simp [State.ditherU, hheld]
  case reply => exact happlied.trans (oscReply_of_given (s := s.passing counter subs) rfl hgiven _)

end Sys2Proof.Machine

/-! SUPPORT. The jump filter's decision (R144), a resync (R145, R146), and the bounds that a step leaves (R161 (f)). -/

namespace Sys2Proof.Machine

variable {s t : State} {p a : Int}

/-! ## Counters that wrap (R31) -/

theorem wrapAdd32_one (c : Word) : wrapAdd32 c 1 = BitVec.ofNat 32 (c.toNat + 1) := by
  rw [wrapAdd32, BitVec.ofNat_add, BitVec.ofNat_toNat, BitVec.setWidth_eq]

theorem wrapAdd32_one_toNat (c : Word) : (wrapAdd32 c 1).toNat = (c.toNat + 1) % 2 ^ 32 := by
  rw [wrapAdd32_one, BitVec.toNat_ofNat]

/-! ## Which sample a step accepts (R144) -/

/-- Settles O38: in each case the filter's two registers and the sample it passes on are those of its equation, and the
rest of the step leaves both registers. -/
theorem jumpFilterAccepts : Obligations.JumpFilterAccepts := by
  intro s p q counter subs hlegal hfits h _ _ hcase hphase hmoved
  have hcap := Build.jumpCap_le hlegal
  have hfilter : ∃ c j, (jumpFilter p s.start).1 = s.passing c j ∧ c.toNat = counter ∧ j.toNat = subs ∧
      s.Accepts p q := by
    obtain ⟨hno, rfl, rfl, rfl⟩ | ⟨hvalid, hfar, hbelow, rfl, rfl, rfl⟩ | ⟨hvalid, hfar, hat, rfl, rfl, rfl⟩ := hcase
    · rw [jumpFilter_of_no_jump (s := s.start) hno]
      exact ⟨_, _, rfl, rfl, rfl, .inl ⟨rfl, hno.imp_right .inl⟩, hphase, hmoved⟩
    · rw [jumpFilter_of_absorbed (s := s.start) hvalid hfar hbelow]
      have hcounted : (BitVec.ofNat 8 (s.cd.jumpCounter.toNat + 1)).toNat = s.cd.jumpCounter.toNat + 1 := by
        rw [BitVec.toNat_ofNat]
        omega
      exact ⟨_, _, rfl, hcounted, wrapAdd32_one_toNat _, .inr ⟨rfl, hvalid, hfar, hbelow⟩, hphase, hmoved⟩
    · rw [jumpFilter_of_cap (s := s.start) hvalid hfar hat]
      exact ⟨s.cd.jumpCounter, s.cd.jumpSubs, rfl, hat, rfl, .inl ⟨rfl, .inr (.inr hat)⟩, hphase, hmoved⟩
  obtain ⟨c, j, hpassing, hcounter, hsubs, haccepts⟩ := hfilter
  obtain ⟨hexec, -⟩ := exec_cdStep_of_accepts hlegal h haccepts
  rw [hpassing] at hexec
  have hgps : GpsNotLost (s.passing c j).hm := h.gpsNotLost
  obtain ⟨-, -, -, -, -, hkeptCounter, hkeptSubs, hresyncs, hskipped⟩ := steer_loops q hgps
  obtain ⟨hprev, hvalid, -⟩ := steer_bookkeeping (s := s.passing c j) hfits hgps hphase
  obtain ⟨htb, hgd, hsys, hcfg, hpb, hhost⟩ := exec_cdStep_keeps hexec
  refine ⟨_, hexec, rfl, ?_⟩
  rw [State.answer_cd, hkeptCounter, hkeptSubs]
  exact ⟨hprev, hvalid, hcounter, hsubs, hresyncs, hskipped, htb, hgd, hsys, hcfg, hpb,
    fun _ hj => (exec_cdStep_pushesAtHead hexec).read_other h.phForm hj, hhost⟩

/-! ## A resync (R145, R146) -/

/-- An update that goes to UNLOCK disables the PPS output (R128). -/
theorem hmUpdate_to_unlock (htarget : updateTarget s = .unlock) (hbefore : s.hm.system ≠ .unlock) :
    hmUpdate s = enterUnlock (s.withHm { s.hm with system := .unlock }) := by
  have hchanged : ¬ SystemStatus.unlock = s.hm.system := fun h => hbefore h.symm
  unfold updateTarget at htarget
  simp only [hmUpdate, htarget, if_neg hchanged]

/-- Outside HOLDOVER the loss of a lock moves no status: UNLOCK stays, and OK does not depend on the locks (R125). -/
theorem hmUpdate_of_lost_lock (h : GpsNotLost s.hm) (hsystem : s.hm.system ≠ .holdover) (hpll : s.hm.pll = .unlock) :
    hmUpdate s = s := by
  refine hmUpdate_of_stays ?_
  unfold updateTarget
  cases hbefore : s.hm.system with
  | ok => exact nextSystem_ok_of_gps_not_lost (h hbefore)
  | unlock => rw [nextSystem_below_row_three (.inl rfl), if_pos (.inl hpll)]
  | holdover => exact absurd hbefore hsystem

/-- Both locks reported lost outside HOLDOVER (R145). -/
theorem lostLocks_outside_holdover (h : GpsNotLost s.hm) (hsystem : s.hm.system ≠ .holdover) :
    setFllStatus .unlock (setPllStatus .unlock s) = s.withHm { s.hm with pll := .unlock, fll := .unlock } := by
  have hpll : setPllStatus .unlock s = s.withHm { s.hm with pll := .unlock } :=
    hmUpdate_of_lost_lock (s := s.withHm _) h hsystem rfl
  rw [hpll]
  exact hmUpdate_of_lost_lock (s := State.withHm _ _) h hsystem rfl

/-- Both locks reported lost in HOLDOVER: the Pll setter ends it (R125, R128, R145). -/
theorem lostLocks_in_holdover (hsystem : s.hm.system = .holdover) :
    setFllStatus .unlock (setPllStatus .unlock s) = (s.withHm { s.hm with
      pll := .unlock, fll := .unlock, system := .unlock, ppsEnabled := false }).emit .ppsDisable := by
  have htarget : nextSystem s.hm.system s.hm.osc s.hm.gps .unlock s.hm.fll = .unlock := by
    rw [hsystem]
    by_cases hfll : s.hm.fll = .unlock
    · rw [hfll, nextSystem_holdover_of_fll_lost]
    · rw [nextSystem_below_row_three (.inr ⟨rfl, hfll⟩), if_pos (.inl rfl)]
  have hpll : setPllStatus .unlock s = (s.withHm { s.hm with
      pll := .unlock, system := .unlock, ppsEnabled := false }).emit .ppsDisable :=
    hmUpdate_to_unlock (s := s.withHm { s.hm with pll := .unlock }) htarget (by simp [hsystem])
  rw [hpll]
  exact hmUpdate_of_lost_lock (s := State.withHm _ _) nofun nofun rfl

/-- The discipline of a resync, before it reports the locks (R145, R146). -/
def resyncReset (s : State) : State :=
  let t := disciplineReset .resync (s.emit .forceResync)
  t.withCd { t.cd with resyncCount := wrapAdd32 t.cd.resyncCount 1 }

theorem resync_outside_holdover (h : GpsNotLost s.hm) (hsystem : s.hm.system ≠ .holdover) :
    resync s = (resyncReset s).withHm { s.hm with pll := .unlock, fll := .unlock } :=
  lostLocks_outside_holdover (s := resyncReset s) h hsystem

theorem resync_in_holdover (hsystem : s.hm.system = .holdover) :
    resync s = ((resyncReset s).withHm { s.hm with
      pll := .unlock, fll := .unlock, system := .unlock, ppsEnabled := false }).emit .ppsDisable :=
  lostLocks_in_holdover (s := resyncReset s) hsystem

/-- A resync leaves ClockDiscipline as the reset did. -/
theorem resync_cd (h : GpsNotLost s.hm) : (resync s).cd = (resyncReset s).cd := by
  by_cases hsystem : s.hm.system = .holdover
  · rw [resync_in_holdover hsystem]; rfl
  · rw [resync_outside_holdover h hsystem]; rfl

theorem needsResync_iff (s : State) (p : Int) : needsResync s p = true ↔ s.build.resyncPhaseNs < p.natAbs ∨
    (s.cd.prevValid = true ∧ s.build.resyncJumpNs < (p - s.cd.prevPhase.toInt).natAbs) := by
  simp [needsResync]

/-- Settles O39: a sample that the filter passes on as it is, and that R145's test refuses. -/
theorem resyncResetsTheDiscipline : Obligations.ResyncResetsTheDiscipline := by
  intro s p h _ _ hpasses hrefused
  have hfilter : ∃ counter, (jumpFilter p s.start) = (s.passing counter s.cd.jumpSubs, p) := by
    by_cases hno : s.cd.prevValid = false ∨ (p - s.cd.prevPhase.toInt).natAbs < s.build.jumpThresholdNs
    · exact ⟨_, jumpFilter_of_no_jump (s := s.start) hno⟩
    · obtain ⟨hvalid, hfar⟩ := not_or.mp hno
      have hat := (hpasses.resolve_left (not_or.mp hno).1).resolve_left hfar
      exact ⟨s.cd.jumpCounter, jumpFilter_of_cap (s := s.start) (Bool.of_not_eq_false hvalid) (Nat.not_lt.mp hfar) hat⟩
  obtain ⟨counter, hpassing⟩ := hfilter
  have hneeds : needsResync (s.passing counter s.cd.jumpSubs) p = true := (needsResync_iff _ _).mpr hrefused
  have hexec := exec_cdStep_of_resync (s := s) (p := p) (by rw [hpassing]; exact hneeds)
  rw [hpassing] at hexec
  have hgps : GpsNotLost (s.passing counter s.cd.jumpSubs).hm := h.gpsNotLost
  refine ⟨_, hexec, rfl, fun hsystem => ?outside, fun hsystem => ?inside, ?cd, ?frame⟩
  case outside => rw [resync_outside_holdover hgps hsystem]; exact ⟨rfl, rfl⟩
  case inside => rw [resync_in_holdover (s := s.passing counter s.cd.jumpSubs) hsystem]; exact ⟨rfl, rfl⟩
  case cd =>
    rw [State.answer_cd, resync_cd hgps, ← wrapAdd32_one]
    rfl
  case frame => simp [State.passing, State.KeepsStores, State.KeepsHost]

/-! ## The bounds after a step (R161 (f)) -/

/-- The ramps raise the factors or leave them (R153). -/
theorem steerBooked_factors_le (p : Int) (h : DisciplineOk s.build s.cfg s.cd) :
    s.cd.pllFactor.toNat ≤ (steerBooked p s).cd.pllFactor.toNat ∧
      s.cd.fllFactor.toNat ≤ (steerBooked p s).cd.fllFactor.toNat := by
  obtain ⟨-, -, hpll, -, hfll⟩ := steerBooked_ramps p s
  have hpllHigh := h.pllHigh
  have hfllHigh := h.fllHigh
  rw [hpll, hfll, factorAfter_toNat, factorAfter_toNat]
  constructor <;> split <;> omega

/-- The bounds that `t` holds after a step of `s` (R161 (f)): each accumulator in terms of the factor that the step used,
and of the one after it unless the step annealed the factors. -/
def State.AccumulatorsBounded (s t : State) : Prop :=
  t.cd.pllAcc.toInt.natAbs < (s.build.pllCarryMax + 1) * s.cd.pllFactor.toNat ∧
    t.cd.fllAcc.toInt.natAbs < s.cd.fllFactor.toNat * s.build.fllSmoothing ∧
    (¬ s.AnnealsInStep t →
      t.cd.pllAcc.toInt.natAbs < (s.build.pllCarryMax + 1) * t.cd.pllFactor.toNat ∧
      t.cd.fllAcc.toInt.natAbs < t.cd.fllFactor.toNat * s.build.fllSmoothing)

/-- The bounds speak of HealthMonitor, the factors and the build before the step. -/
theorem State.AccumulatorsBounded.congr_left {v : State} (h : v.AccumulatorsBounded t) (hbuild : v.build = s.build)
    (hhm : v.hm = s.hm) (hpll : v.cd.pllFactor = s.cd.pllFactor) (hfll : v.cd.fllFactor = s.cd.fllFactor) :
    s.AccumulatorsBounded t := by
  unfold State.AccumulatorsBounded State.AnnealsInStep at h ⊢
  rwa [hbuild, hhm, hpll, hfll] at h

/-- A steering step leaves remainders of the factors it used, which the ramps do not lower. -/
theorem steer_accumulatorsBounded (hlegal : s.build.legal = true) (hfits : s.build.fits = true) (h : s.PreInv)
    (hbounded : DisciplineBounded s.build s.cd) (hgps : GpsNotLost s.hm) (ha : a.natAbs ≤ s.build.resyncPhaseNs)
    (hfll : s.cd.fllAcc.toInt.natAbs < s.cd.fllFactor.toNat * s.build.fllSmoothing) :
    s.AccumulatorsBounded (steer a s) := by
  obtain ⟨hpllAcc, -, hfllAcc, -⟩ := steer_loops a hgps
  have hpllUsed : (steer a s).cd.pllAcc.toInt.natAbs < (s.build.pllCarryMax + 1) * s.cd.pllFactor.toNat := by
    rw [hpllAcc]
    exact steerFedBack_pllAcc hlegal hfits h hbounded ha
  have hfllUsed : (steer a s).cd.fllAcc.toInt.natAbs < s.cd.fllFactor.toNat * s.build.fllSmoothing := by
    rw [hfllAcc]
    cases hactive : fllActive s with
    | false =>
      obtain ⟨-, hkept, -⟩ := steer_settling a hactive
      rw [hkept]
      exact hfll
    | true =>
      obtain ⟨hlearned, -⟩ := steer_settled a hactive
      obtain ⟨hdivisor, hlimit⟩ := fllDivisor_bounds hlegal h
      rw [hlearned]
      exact fllUpdate_fllAcc (s := (steerSlewed a s).1) a hdivisor (hlimit.trans (Build.fllRange_le hfits))
  obtain ⟨-, -, -, hstays, -⟩ := steer_factors (p := a) hgps
  obtain ⟨hpllLe, hfllLe⟩ := steerBooked_factors_le a h.discipline
  refine ⟨hpllUsed, hfllUsed, fun hkept => ?_⟩
  obtain ⟨hpllFactor, hfllFactor⟩ := hstays hkept
  rw [hpllFactor, hfllFactor]
  exact ⟨hpllUsed.trans_le (Nat.mul_le_mul_left _ hpllLe), hfllUsed.trans_le (Nat.mul_le_mul_right _ hfllLe)⟩

/-- A resync clears both accumulators, and the factors are never 0. -/
theorem resync_accumulatorsBounded (hlegal : s.build.legal = true) (h : s.PreInv) (hgps : GpsNotLost s.hm) :
    s.AccumulatorsBounded (resync s) := by
  have hafter := resync_inv hlegal h
  have hsmoothing := Build.one_le_fllSmoothing hlegal
  obtain ⟨hpllAcc, hfllAcc⟩ : (resync s).cd.pllAcc = 0 ∧ (resync s).cd.fllAcc = 0 := by
    rw [resync_cd hgps]
    exact ⟨rfl, rfl⟩
  unfold State.AccumulatorsBounded
  rw [hpllAcc, hfllAcc]
  exact ⟨Nat.mul_pos (Nat.succ_pos _) (h.config.pllMin.trans h.discipline.pllLow),
    Nat.mul_pos (h.config.fllMin.trans h.discipline.fllLow) hsmoothing,
    fun _ => ⟨Nat.mul_pos (Nat.succ_pos _) (hafter.pllMin.trans hafter.pllLow),
      Nat.mul_pos (hafter.fllMin.trans hafter.fllLow) hsmoothing⟩⟩

theorem cdStep_accumulatorsBounded {r : State × Bool} (hlegal : s.build.legal = true) (hfits : s.build.fits = true)
    (h : s.Inv) (hb : s.Bounded) (hr : cdStep p true s = .ok r)
    (hfll : s.cd.fllAcc.toInt.natAbs < s.cd.fllFactor.toNat * s.build.fllSmoothing) :
    s.AccumulatorsBounded r.1 := by
  have hpre := jumpFilter_preInv p hlegal h.preInv
  have hbounded := (jumpFilter_bounded p hb).discipline
  obtain ⟨counter, subs, hcd⟩ := jumpFilter_cd p s
  have hbuild : (jumpFilter p s).1.build = s.build := by simp
  have hhm : (jumpFilter p s).1.hm = s.hm := by simp
  have hgps : GpsNotLost (jumpFilter p s).1.hm := hhm ▸ h.gpsNotLost
  have hran := cdStep_ran hr
  obtain rfl | rfl | ⟨haccepted, rfl⟩ := cdStep_cases_needsResync hr <;> dsimp only
  · cases hran
  · exact (resync_accumulatorsBounded (hbuild ▸ hlegal) hpre hgps).congr_left hbuild hhm (by rw [hcd]) (by rw [hcd])
  · have hsteered := steer_accumulatorsBounded (hbuild ▸ hlegal) (hbuild ▸ hfits) hpre hbounded hgps
      (natAbs_le_of_needsResync haccepted) (by rw [hcd, hbuild]; exact hfll)
    exact hsteered.congr_left hbuild hhm (by rw [hcd]) (by rw [hcd])

/-- Settles O42: CD_STEP completes with the bounds of its step, and the invariants bound the learned rate. -/
theorem stepKeepsAccumulatorBounds : Obligations.StepKeepsAccumulatorBounds := by
  intro s p hlegal hfits h hb _ _ hfll
  have hstart : s.start.Inv := h.congr rfl rfl rfl rfl rfl rfl rfl rfl
  obtain ⟨r, hr⟩ := cdStep_completes (s := s.start) p true hlegal hstart
  have hafter := cdStep_inv (s := s.start) hlegal hfits hstart hr
  obtain ⟨hpllAcc, hfllAcc, hstays⟩ :=
    cdStep_accumulatorsBounded (s := s.start) hlegal hfits hstart (hb.congr rfl rfl rfl) hr hfll
  exact ⟨_, exec_cdStep_of_ok hr, hpllAcc, hfllAcc, hstays, hafter.rate⟩

end Sys2Proof.Machine

/-! SUPPORT. The jump filter's two registers beside a steering step (R161 (b)): the filter alone writes them, and no
other stage reads them. -/

namespace Sys2Proof.Machine

variable {s t : State} {p a : Int}

/-! ## A state with other values in the jump filter's registers -/

/-- The state with CD.jump_counter and CD.jump_subs replaced. -/
def State.counting (counter : Byte) (subs : Word) (s : State) : State :=
  s.withCd { s.cd with jumpCounter := counter, jumpSubs := subs }

/-- An update that goes to OK enables the PPS output, and anneals the factors after a holdover (R126). -/
theorem hmUpdate_to_ok (htarget : updateTarget s = .ok) (hbefore : s.hm.system ≠ .ok) :
    hmUpdate s = enterOk s.hm.system (s.withHm { s.hm with system := .ok }) := by
  have hchanged : ¬ SystemStatus.ok = s.hm.system := fun h => hbefore h.symm
  unfold updateTarget at htarget
  simp only [hmUpdate, htarget, if_neg hchanged]

theorem enterOk_counting (counter : Byte) (subs : Word) (before : SystemStatus) (s : State) :
    enterOk before (s.counting counter subs) = (enterOk before s).counting counter subs := by
  cases before <;> rfl

/-- With Gps not lost in OK, no update resets the discipline, and the two registers stay beside it (R125 to R128). -/
theorem hmUpdate_counting (counter : Byte) (subs : Word) (h : GpsNotLost s.hm) :
    hmUpdate (s.counting counter subs) = (hmUpdate s).counting counter subs := by
  have hsame : updateTarget (s.counting counter subs) = updateTarget s := rfl
  by_cases hstays : updateTarget s = s.hm.system
  · rw [hmUpdate_of_stays hstays, hmUpdate_of_stays (hsame.trans hstays)]
  · cases htarget : updateTarget s with
    | ok =>
      have hbefore : s.hm.system ≠ .ok := fun ho => hstays (htarget.trans ho.symm)
      rw [hmUpdate_to_ok htarget hbefore, hmUpdate_to_ok (hsame.trans htarget) hbefore]
      exact enterOk_counting counter subs _ (s.withHm { s.hm with system := .ok })
    | holdover => exact absurd (htarget.trans (holdover_of_nextSystem h htarget).1.symm) hstays
    | unlock =>
      have hbefore : s.hm.system ≠ .unlock := fun hu => hstays (htarget.trans hu.symm)
      rw [hmUpdate_to_unlock htarget hbefore, hmUpdate_to_unlock (hsame.trans htarget) hbefore]
      rfl

theorem setPllStatus_counting (counter : Byte) (subs : Word) (x : SubStatus) (h : GpsNotLost s.hm) :
    setPllStatus x (s.counting counter subs) = (setPllStatus x s).counting counter subs :=
  hmUpdate_counting (s := s.withHm { s.hm with pll := x }) counter subs h

theorem setFllStatus_counting (counter : Byte) (subs : Word) (x : SubStatus) (h : GpsNotLost s.hm) :
    setFllStatus x (s.counting counter subs) = (setFllStatus x s).counting counter subs :=
  hmUpdate_counting (s := s.withHm { s.hm with fll := x, fllWdt := if x = .ok then 0 else s.hm.fllWdt })
    counter subs h

/-! ## The stages of the step (R147 to R155) -/

theorem ramps_counting (counter : Byte) (subs : Word) (f : Int) (active : Bool) (s : State) :
    ramps f active (s.counting counter subs) = (ramps f active s).counting counter subs := by
  have hpll (u : State) : pllRampStep f (u.counting counter subs) = (pllRampStep f u).counting counter subs := by
    simp only [pllRampStep, apply_ite (State.counting counter subs)]
    rfl
  have hfll (u : State) : fllRampStep active (u.counting counter subs) = (fllRampStep active u).counting counter subs := by
    simp only [fllRampStep, apply_ite (State.counting counter subs)]
    rfl
  rw [ramps, hpll, hfll, ramps]

theorem steerLearned_counting (counter : Byte) (subs : Word) (p : Int) (s : State) :
    steerLearned p (s.counting counter subs) = (steerLearned p s).counting counter subs := by
  simp only [steerLearned, apply_ite (State.counting counter subs)]
  rfl

theorem steerDither_counting (counter : Byte) (subs : Word) (p : Int) (s : State) :
    steerDither p (s.counting counter subs) = steerDither p s := by
  rw [steerDither, steerLearned_counting]
  rfl

theorem steerCommanded_counting (counter : Byte) (subs : Word) (p : Int) (s : State) :
    steerCommanded p (s.counting counter subs) =
      ((steerCommanded p s).1.counting counter subs, (steerCommanded p s).2) := by
  rw [steerCommanded, steerLearned_counting, steerDither_counting]
  rfl

theorem steerBooked_counting (counter : Byte) (subs : Word) (p : Int) (s : State) :
    steerBooked p (s.counting counter subs) = (steerBooked p s).counting counter subs := by
  have hfedBack : steerFedBack p (s.counting counter subs) = (steerFedBack p s).counting counter subs := by
    rw [steerFedBack, steerCommanded_counting, steerDither_counting]
    rfl
  rw [steerBooked, hfedBack, steerDither_counting, ramps_counting]
  rfl

theorem lockEvaluation_counting (counter : Byte) (subs : Word) (f : Int) (h : GpsNotLost s.hm) :
    lockEvaluation f (s.counting counter subs) = (lockEvaluation f s).counting counter subs := by
  have hlatched : lockLatched f (s.counting counter subs) = (lockLatched f s).counting counter subs := by
    simp only [lockLatched, apply_ite (State.counting counter subs)]
    rfl
  have hgps : GpsNotLost (lockLatched f s).hm := by
    obtain ⟨reftime, hreftime⟩ := lockLatched_eq_withHm f s
    rw [hreftime]
    exact h
  rw [lockEvaluation_eq, hlatched, setPllStatus_counting _ _ _ hgps,
    setFllStatus_counting (s := setPllStatus _ _) _ _ _ (hmUpdate_gpsNotLost _), lockEvaluation_eq]
  rfl

/-- A steering step carries the jump filter's registers along (R142). -/
theorem steer_counting (counter : Byte) (subs : Word) (p : Int) (h : GpsNotLost s.hm) :
    steer p (s.counting counter subs) = (steer p s).counting counter subs := by
  rw [steer_eq_stages, steerBooked_counting, lockEvaluation_counting _ _ _ (by simpa using h), steer_eq_stages]
  rfl

/-! ## A spike (R144, R161 (b)) -/

theorem cdStep_of_fault {u : State} {e : Fault} (hfilter : jumpFilter p s = (u, a))
    (haccepted : needsResync u a = false) (hfault : steerFault u = some e) : cdStep p true s = .error e := by
  simp only [cdStep, hfilter, haccepted, hfault, if_pos, Bool.false_eq_true, if_false]

/-- A repetition of the previous sample, which is in range, does not resync (R145). -/
theorem needsResync_repetition (hrange : s.cd.prevPhase.toInt.natAbs ≤ s.build.resyncPhaseNs) :
    needsResync s s.cd.prevPhase.toInt = false := by
  refine Bool.eq_false_iff.mpr fun hneeds => ?_
  obtain hphase | ⟨-, hjump⟩ := (needsResync_iff _ _).mp hneeds <;> omega

/-- CD.step of the previous sample, which is in range, steers on it (R144, R145). -/
theorem cdStep_of_repetition (hthreshold : 1 ≤ s.build.jumpThresholdNs)
    (hrange : s.cd.prevPhase.toInt.natAbs ≤ s.build.resyncPhaseNs) {r : State × Bool}
    (h : cdStep s.cd.prevPhase.toInt true s = .ok r) :
    r = (steer s.cd.prevPhase.toInt (s.counting 0 s.cd.jumpSubs), true) ∧
      steerFault (s.counting 0 s.cd.jumpSubs) = none := by
  have hfilter : jumpFilter s.cd.prevPhase.toInt s = (s.counting 0 s.cd.jumpSubs, s.cd.prevPhase.toInt) :=
    jumpFilter_of_no_jump (.inr (by omega))
  have haccepted : needsResync (s.counting 0 s.cd.jumpSubs) s.cd.prevPhase.toInt = false :=
    needsResync_repetition hrange
  cases hfault : steerFault (s.counting 0 s.cd.jumpSubs) with
  | none => exact ⟨(Except.ok.inj ((cdStep_of_accepted hfilter haccepted hfault).symm.trans h)).symm, rfl⟩
  | some e => cases (cdStep_of_fault hfilter haccepted hfault).symm.trans h

/-- CD_STEP of the previous sample (R158). -/
theorem exec_cdStep_of_repetition (hthreshold : 1 ≤ s.build.jumpThresholdNs)
    (hrange : s.cd.prevPhase.toInt.natAbs ≤ s.build.resyncPhaseNs)
    (h : exec (.cdStep s.cd.prevPhase.toInt true) s = .next t) :
    t = (steer s.cd.prevPhase.toInt (s.start.counting 0 s.cd.jumpSubs)).answer 1 0 ∧
      steerFault (s.start.counting 0 s.cd.jumpSubs) = none := by
  obtain ⟨r, hr, -⟩ := exec_cdStep_next h
  obtain ⟨hsteer, hfault⟩ := cdStep_of_repetition (s := s.start) hthreshold hrange hr
  rw [hsteer] at hr
  exact ⟨Host.Outcome.next.inj (h.symm.trans (exec_cdStep_of_ran hr)), hfault⟩

/-- CD_STEP of a jump that the filter absorbs steers on the previous sample, with two more registers counted. -/
theorem exec_cdStep_of_absorbed (hvalid : s.cd.prevValid = true)
    (hfar : s.build.jumpThresholdNs ≤ (p - s.cd.prevPhase.toInt).natAbs)
    (hcounter : s.cd.jumpCounter.toNat < s.build.jumpCap)
    (hrange : s.cd.prevPhase.toInt.natAbs ≤ s.build.resyncPhaseNs) (hgps : GpsNotLost s.hm)
    (hfault : steerFault (s.start.counting 0 s.cd.jumpSubs) = none) :
    exec (.cdStep p true) s =
      .next (((steer s.cd.prevPhase.toInt (s.start.counting 0 s.cd.jumpSubs)).counting
        (BitVec.ofNat 8 (s.cd.jumpCounter.toNat + 1)) (BitVec.ofNat 32 (s.cd.jumpSubs.toNat + 1))).answer 1 0) := by
  have hfilter := jumpFilter_of_absorbed (s := s.start) hvalid hfar hcounter
  rw [wrapAdd32_one] at hfilter
  rw [← steer_counting (s := s.start.counting 0 s.cd.jumpSubs) _ _ _ hgps]
  exact exec_cdStep_of_ran (cdStep_of_accepted hfilter (needsResync_repetition (s := State.withCd _ _) hrange) hfault)

theorem State.answer_counting (counter : Byte) (subs : Word) (r0 : Quad) (r1 : Word) (s : State) :
    (s.counting counter subs).answer r0 r1 =
      { s.answer r0 r1 with cd := { (s.answer r0 r1).cd with jumpCounter := counter, jumpSubs := subs } } := rfl

/-- Settles O37: the filter passes the previous sample on in both steps, which then differ in its registers alone. -/
theorem spikeIsAbsorbed : Obligations.SpikeIsAbsorbed := by
  intro s u p hvalid hthreshold hfar hcounter hrange hgps hrepeated
  obtain ⟨hu, hfault⟩ := exec_cdStep_of_repetition hthreshold hrange hrepeated
  rw [exec_cdStep_of_absorbed hvalid hfar hcounter hrange hgps hfault, State.answer_counting, hu]

end Sys2Proof.Machine

/-! SUPPORT. CD.skipped through a step (R143), the pending sample (R141), and the cut of the factors (R157). -/

namespace Sys2Proof.Machine

variable {s t : State} {p : Int}

/-! ## CD.skipped (R31, R143) -/

theorem hmUpdate_skipped (s : State) : (hmUpdate s).cd.skipped = s.cd.skipped := by
  rw [hmUpdate_cd]
  split
  · rfl
  · split
    · split <;> rfl
    · rfl
    · rfl

theorem setFllStatus_setPllStatus_skipped (x y : SubStatus) (s : State) :
    (setFllStatus y (setPllStatus x s)).cd.skipped = s.cd.skipped :=
  (hmUpdate_skipped (State.withHm _ _)).trans (hmUpdate_skipped (State.withHm _ _))

theorem steerBooked_skipped (p : Int) (s : State) : (steerBooked p s).cd.skipped = s.cd.skipped := by
  obtain ⟨head, count, hbooked⟩ := bookkeeping_cd p (lowPass p s).2 (steerDither p s)
    (ramps (lowPass p s).2 (fllActive s) (steerFedBack p s))
  rw [steerBooked, hbooked, ramps_cd]
  unfold steerFedBack steerCommanded steerLearned
  split <;> rfl

theorem steer_skipped (p : Int) (s : State) : (steer p s).cd.skipped = s.cd.skipped := by
  obtain ⟨reftime, hlatched⟩ := lockLatched_eq_withHm (lowPass p s).2 (steerBooked p s)
  rw [steer_eq_stages, lockEvaluation_eq, setFllStatus_setPllStatus_skipped, hlatched]
  exact steerBooked_skipped p s

theorem jumpFilter_skipped (p : Int) (s : State) : (jumpFilter p s).1.cd.skipped = s.cd.skipped := by
  obtain ⟨counter, subs, hfilter⟩ := jumpFilter_eq_withCd p s
  rw [hfilter]
  rfl

/-- A step that runs is not counted as skipped (R143). -/
theorem cdStep_skipped {r : State × Bool} (h : cdStep p true s = .ok r) : r.1.cd.skipped = s.cd.skipped := by
  have hran := cdStep_ran h
  obtain hr | hr | hr := cdStep_cases h <;> rw [hr] at hran ⊢
  · cases hran
  · exact (setFllStatus_setPllStatus_skipped _ _ _).trans (jumpFilter_skipped p s)
  · rw [steer_skipped, jumpFilter_skipped]

/-! ## The gate of a step (R143) -/

theorem exec_cdStep_gated (p : Int) (s : State) :
    exec (.cdStep p false) s = .next ((countSkipped s.start).answer 0 0) := rfl

theorem exec_cdStep_running (h : exec (.cdStep p true) s = .next t) :
    t.resp = ⟨.ok, 1, 0⟩ ∧ t.cd.skipped = s.cd.skipped := by
  obtain ⟨r, hr, rfl⟩ := exec_cdStep_next h
  rw [State.answer_resp, State.answer_cd, cdStep_ran hr]
  exact ⟨rfl, cdStep_skipped (s := s.start) hr⟩

/-- Settles O36: the gated step is `countSkipped`, and no stage of a running one writes the counter. -/
theorem gatedStepOnlyCounts : Obligations.GatedStepOnlyCounts := by
  refine fun s p => ⟨⟨_, exec_cdStep_gated p s, rfl, rfl, ?_, rfl, rfl, rfl, rfl, rfl, ?_⟩,
    fun _ h => exec_cdStep_running h⟩
  · rw [← wrapAdd32_one]
    rfl
  · simp [countSkipped, State.KeepsStores, State.KeepsHost]

/-! ## The pending sample (R141) -/

/-- A capture that is not rejected: a sample still pending is counted as skipped, and the phase is latched. -/
theorem exec_ppsCapture_of_lt {tick : Nat} (h : tick < s.build.tickHz) : exec (.ppsCapture tick) s =
    .next (((if s.sys.pendingValid then countSkipped s.start else s.start).withSys
      { pendingValid := true, pendingPhase := BitVec.ofInt 32 (tbTick s tick) }).answer (wrap64 (tbTick s tick)) 0) :=
  if_neg (Nat.not_le.mpr h)

theorem exec_cfgWrite_sys {reg value : Nat} (h : exec (.cfgWrite reg value) s = .next t) : t.sys = s.sys := by
  obtain rfl | ⟨u, r0, r1, ⟨v, hset⟩, rfl⟩ := exec_effect h
  · rfl
  · obtain ⟨-, -, -, hsys, -⟩ := cfgSet_keeps hset
    exact hsys

/-- Settles O35: the phase is that of TB_TICK_TO_NS, and fits both the register and the result. -/
theorem captureLatchesPhase : Obligations.CaptureLatchesPhase := by
  refine ⟨fun w h => ?decode, fun s tick h => ?reject, fun s t reg value => exec_cfgWrite_sys,
    fun s tick htick hfudge => ?latch⟩
  case decode => simp only [decode, decodeFields, h, operandU32]
  case reject =>
    obtain ⟨hblock, hhost⟩ := s.keeps_reject .errRange
    exact ⟨_, if_pos h, rfl, rfl, hblock, hhost⟩
  case latch =>
    obtain ⟨hlow, hhigh⟩ := tbTick_bounds htick hfudge
    have hphase : (BitVec.ofInt 32 (tbTick s tick)).toInt = (wrap64 (tbTick s tick)).toInt := by
      rw [wrap64, toInt_ofInt32 (by omega) (by omega), toInt_ofInt64 (by omega) (by omega)]
    refine ⟨_, _, exec_ppsCapture_of_lt htick, exec_tbTickToNs_of_lt htick, rfl, ?_, rfl, hphase, ?_⟩
    · split <;> rfl
    · rw [← wrapAdd32_one]
      split <;> simp [countSkipped, State.KeepsStores, State.KeepsHost]

/-! ## The cut of a factor (R157) -/

variable {annealS d : Nat} {factor minimum : Half}

/-- The cut is the ceiling of its share of the excess, as the two inequalities that fix it. -/
theorem annealCut_ceiling (hA : 1 ≤ annealS) (hf : minimum.toNat ≤ factor.toNat) :
    (((factor.toNat - minimum.toNat) * min d annealS : Nat) : Int) ≤ annealCut annealS d factor minimum * (2 * annealS) ∧
      annealCut annealS d factor minimum * (2 * annealS) <
        (((factor.toNat - minimum.toNat) * min d annealS : Nat) : Int) + 2 * annealS := by
  obtain ⟨hle, hlt⟩ := fdiv_floor (-(((factor.toNat : Int) - minimum.toNat) * (min d annealS : Nat)))
    (b := 2 * annealS) (by omega)
  rw [annealCut, Nat.cast_mul, Nat.cast_sub hf]
  push_cast at hle hlt ⊢
  constructor <;> linarith

theorem annealCut_zero (annealS : Nat) (factor minimum : Half) : annealCut annealS 0 factor minimum = 0 := by
  simp [annealCut, fdiv]

/-- What a holdover of `d` seconds takes from a factor, in the terms of R157. -/
theorem annealed_cut (hA : 1 ≤ annealS) (hf : minimum.toNat ≤ factor.toNat) :
    ∃ cut : Nat, (BitVec.ofInt 16 ((factor.toNat : Int) - annealCut annealS d factor minimum)).toNat + cut = factor.toNat ∧
      minimum.toNat + cut ≤ factor.toNat ∧
      (factor.toNat - minimum.toNat) * min d annealS ≤ cut * (2 * annealS) ∧
      cut * (2 * annealS) < (factor.toNat - minimum.toNat) * min d annealS + 2 * annealS ∧
      (1 ≤ d → minimum.toNat < factor.toNat → 1 ≤ cut) ∧ (d = 0 → cut = 0) := by
  obtain ⟨hnonneg, hle⟩ := annealCut_bounds (d := d) hA hf
  have hrest := annealed_toNat (d := d) hA hf
  obtain ⟨hlow, hhigh⟩ := annealCut_ceiling (d := d) hA hf
  obtain ⟨cut, hcut⟩ := Int.eq_ofNat_of_zero_le hnonneg
  rw [hcut] at hle hrest hlow hhigh ⊢
  refine ⟨cut, by omega, by omega, by exact_mod_cast hlow, by exact_mod_cast hhigh, fun hd habove => ?_,
    fun hd => ?_⟩
  · have hshare : 0 < (factor.toNat - minimum.toNat) * min d annealS := Nat.mul_pos (by omega) (by omega)
    refine Nat.pos_of_ne_zero fun hzero => ?_
    rw [hzero] at hlow
    omega
  · subst hd
    rw [annealCut_zero] at hcut
    omega

/-! ## CD_LEAVE_HOLDOVER (R160) -/

theorem exec_cdLeaveHoldover (d : Nat) (s : State) :
    exec (.cdLeaveHoldover d) s = .next ((cdLeaveHoldover d s.start).answer 0 0) := rfl

/-- A holdover of no length leaves both factors. -/
theorem cdLeaveHoldover_zero_factors (s : State) : (cdLeaveHoldover 0 s).cd.pllFactor = s.cd.pllFactor ∧
    (cdLeaveHoldover 0 s).cd.fllFactor = s.cd.fllFactor := by
  simp [cdLeaveHoldover, annealCut_zero]

/-- Settles O48: each factor loses its cut, and the reset of CD_ENTER_HOLDOVER keeps the factors. -/
theorem leaveHoldoverAnneals : Obligations.LeaveHoldoverAnneals := by
  intro s d dd hA hpll hfll hdd
  refine ⟨?cut, fun u hu => ?reentered⟩
  case cut =>
    obtain ⟨cp, hpllCut, hpllMin, hpllLow, hpllHigh, hpllPos, hpllZero⟩ := annealed_cut (d := d) hA hpll
    obtain ⟨cf, hfllCut, hfllMin, hfllLow, hfllHigh, hfllPos, hfllZero⟩ := annealed_cut (d := d) hA hfll
    rw [hdd]
    refine ⟨_, cp, cf, exec_cdLeaveHoldover d s, rfl, rfl, hpllCut, hfllCut, hpllLow, hpllHigh, hfllLow, hfllHigh,
      ?_, ?_, hpllPos, hfllPos, fun hd => ⟨hpllZero hd, hfllZero hd⟩, rfl, rfl, rfl, rfl, rfl, rfl, ?_⟩
    · exact Nat.le_of_add_le_add_right (hpllMin.trans_eq hpllCut.symm)
    · exact Nat.le_of_add_le_add_right (hfllMin.trans_eq hfllCut.symm)
    · simp [cdLeaveHoldover, State.KeepsStores, State.KeepsHost]
  case reentered =>
    cases hu
    exact ⟨_, exec_cdLeaveHoldover 0 _, cdLeaveHoldover_zero_factors _⟩

end Sys2Proof.Machine

/-! SUPPORT. The system commands (spec/45_system.md): RESET gives the power-on registers (R163), and the step that
SECOND_TICK runs does not see that it runs inside a tick (R164, R165). -/

namespace Sys2Proof.Machine

variable {s v : State}

/-! ## RESET (R163, R187) -/

/-- RESET leaves the power-on block and keeps the host's side of the interface; the one event is that of a PPS output
that was enabled (R163). -/
theorem exec_reset (s : State) : exec .reset s = .next
    (State.answer { blockReset s.start with events := if s.hm.ppsEnabled then [.ppsDisable] else [] } 0 0) := by
  simp only [exec, execReset]
  split <;> rfl

/-- Settles O51: every register of `blockReset` is the constant of its table, and both stores list no cell. -/
theorem resetRestoresResetState : Obligations.ResetRestoresResetState := by
  refine ⟨fun w h => by simp only [decode, decodeFields, h], fun s => ⟨_, exec_reset s, rfl, ?enabled, ?disabled,
    rfl, rfl, rfl, rfl, rfl, rfl, fun _ => rfl, fun _ => rfl, ?powerOn, rfl, ⟨rfl, rfl, rfl, rfl⟩⟩⟩
  case enabled => exact fun hpps => if_pos hpps
  case disabled => exact fun hpps => if_neg (Bool.eq_false_iff.mp hpps)
  case powerOn => exact ⟨rfl, rfl, rfl, rfl, rfl, rfl, fun _ => rfl, fun _ => rfl⟩

/-! ## A state inside a tick -/

/-- The state `s` with another pending sample, and with the events `es` emitted before its own. -/
def State.midTick (x : Sequencing) (es : List Event) (s : State) : State :=
  { s with sys := x, events := es ++ s.events }

section
variable (x : Sequencing) (es : List Event)

@[simp] theorem State.midTick_hm (s : State) : (s.midTick x es).hm = s.hm := rfl
@[simp] theorem State.midTick_cd (s : State) : (s.midTick x es).cd = s.cd := rfl
@[simp] theorem State.midTick_sys (s : State) : (s.midTick x es).sys = x := rfl

@[simp] theorem State.withHm_midTick (y : HealthMonitor) (s : State) :
    (s.midTick x es).withHm y = (s.withHm y).midTick x es := rfl

theorem State.nextOscIdx_midTick (s : State) : (s.midTick x es).nextOscIdx = s.nextOscIdx.midTick x es := rfl

@[simp] theorem State.emit_midTick (e : Event) (s : State) :
    (s.midTick x es).emit e = (s.emit e).midTick x es := by
  simp [State.midTick, State.emit]

/-! ## TimeBase and HealthMonitor read neither the sample nor the events (R78, R125 to R129) -/

theorem tbAdvance_midTick (s : State) : tbAdvance (s.midTick x es) = (tbAdvance s).midTick x es := by
  unfold tbAdvance
  dsimp only
  rw [apply_ite (State.midTick x es)]
  rfl

theorem cdCommand_midTick (rate : Int) (s : State) :
    cdCommand rate (s.midTick x es) = ((cdCommand rate s).1.midTick x es, (cdCommand rate s).2) := by
  unfold cdCommand
  dsimp only
  rw [State.nextOscIdx_midTick, State.emit_midTick, State.emit_midTick]
  rfl

theorem disciplineReset_midTick (kind : ResetKind) (s : State) :
    disciplineReset kind (s.midTick x es) = (disciplineReset kind s).midTick x es := rfl

theorem cdEnterHoldover_midTick (s : State) : cdEnterHoldover (s.midTick x es) = (cdEnterHoldover s).midTick x es := by
  simp only [cdEnterHoldover, cdCommand_midTick, disciplineReset_midTick, State.midTick_cd]

theorem enterOk_midTick (before : SystemStatus) (s : State) :
    enterOk before (s.midTick x es) = (enterOk before s).midTick x es := by
  simp only [enterOk, State.midTick_hm, State.withHm_midTick, State.emit_midTick]
  cases before <;> rfl

theorem enterHoldoverSide_midTick (s : State) :
    enterHoldoverSide (s.midTick x es) = (enterHoldoverSide s).midTick x es := by
  unfold enterHoldoverSide
  rw [State.withHm_midTick]
  exact cdEnterHoldover_midTick x es _

theorem enterUnlock_midTick (s : State) : enterUnlock (s.midTick x es) = (enterUnlock s).midTick x es := by
  unfold enterUnlock
  rw [State.withHm_midTick, State.emit_midTick]
  rfl

theorem hmUpdate_midTick (s : State) : hmUpdate (s.midTick x es) = (hmUpdate s).midTick x es := by
  unfold hmUpdate
  dsimp only [State.midTick_hm, State.withHm_midTick]
  split
  · rfl
  · split
    · exact enterOk_midTick x es _ _
    · exact enterHoldoverSide_midTick x es _
    · exact enterUnlock_midTick x es _

theorem hmAge_midTick (s : State) : hmAge (s.midTick x es) = (hmAge s).midTick x es := by
  unfold hmAge
  dsimp only
  rw [State.withHm_midTick]
  exact hmUpdate_midTick x es _

theorem setPllStatus_midTick (y : SubStatus) (s : State) :
    setPllStatus y (s.midTick x es) = (setPllStatus y s).midTick x es :=
  hmUpdate_midTick x es (s.withHm _)

theorem setFllStatus_midTick (y : SubStatus) (s : State) :
    setFllStatus y (s.midTick x es) = (setFllStatus y s).midTick x es :=
  hmUpdate_midTick x es (s.withHm _)

/-! ## Nor does the discipline step, which is given its sample (R142 to R155) -/

theorem jumpFilter_midTick (p : Int) (s : State) :
    jumpFilter p (s.midTick x es) = Prod.map (State.midTick x es) id (jumpFilter p s) := by
  unfold jumpFilter
  simp only [apply_ite (Prod.map (State.midTick x es) id)]
  rfl

theorem lowPass_midTick (p : Int) (s : State) :
    lowPass p (s.midTick x es) = ((lowPass p s).1.midTick x es, (lowPass p s).2) := rfl

theorem fllActive_midTick (s : State) : fllActive (s.midTick x es) = fllActive s := rfl

theorem bookkeeping_midTick (p f dither : Int) (s : State) :
    bookkeeping p f dither (s.midTick x es) = (bookkeeping p f dither s).midTick x es := rfl

theorem resync_midTick (s : State) : resync (s.midTick x es) = (resync s).midTick x es := by
  unfold resync
  rw [← setFllStatus_midTick, ← setPllStatus_midTick, State.emit_midTick]
  rfl

theorem steerLearned_midTick (p : Int) (s : State) :
    steerLearned p (s.midTick x es) = (steerLearned p s).midTick x es := by
  unfold steerLearned
  rw [apply_ite (State.midTick x es)]
  rfl

theorem steerDither_midTick (p : Int) (s : State) : steerDither p (s.midTick x es) = steerDither p s := by
  unfold steerDither
  rw [steerLearned_midTick]
  rfl

theorem steerCommanded_midTick (p : Int) (s : State) :
    steerCommanded p (s.midTick x es) = ((steerCommanded p s).1.midTick x es, (steerCommanded p s).2) := by
  unfold steerCommanded
  rw [steerDither_midTick, steerLearned_midTick]
  exact cdCommand_midTick x es _ _

theorem steerFedBack_midTick (p : Int) (s : State) :
    steerFedBack p (s.midTick x es) = (steerFedBack p s).midTick x es := by
  unfold steerFedBack
  rw [steerCommanded_midTick, steerDither_midTick]
  rfl

theorem pllRampStep_midTick (f : Int) (s : State) :
    pllRampStep f (s.midTick x es) = (pllRampStep f s).midTick x es := by
  unfold pllRampStep
  dsimp only
  simp only [apply_ite (State.midTick x es)]
  rfl

theorem fllRampStep_midTick (active : Bool) (s : State) :
    fllRampStep active (s.midTick x es) = (fllRampStep active s).midTick x es := by
  unfold fllRampStep
  dsimp only
  simp only [apply_ite (State.midTick x es)]
  rfl

theorem ramps_midTick (f : Int) (active : Bool) (s : State) :
    ramps f active (s.midTick x es) = (ramps f active s).midTick x es := by
  rw [ramps, pllRampStep_midTick, fllRampStep_midTick, ramps]

theorem steerBooked_midTick (p : Int) (s : State) :
    steerBooked p (s.midTick x es) = (steerBooked p s).midTick x es := by
  unfold steerBooked
  rw [steerFedBack_midTick, steerDither_midTick, lowPass_midTick, fllActive_midTick, ramps_midTick, bookkeeping_midTick]

theorem lockLatched_midTick (f : Int) (s : State) :
    lockLatched f (s.midTick x es) = (lockLatched f s).midTick x es := by
  rw [lockLatched_eq, lockLatched_eq]
  rfl

theorem steer_midTick (p : Int) (s : State) : steer p (s.midTick x es) = (steer p s).midTick x es := by
  rw [steer_eq_stages, steer_eq_stages, steerBooked_midTick, lockEvaluation_eq, lockEvaluation_eq, lockLatched_midTick,
    setPllStatus_midTick, setFllStatus_midTick]
  rfl

/-- CD.step on a given sample does the same inside a tick, and adds its events to those emitted before it (R142). -/
theorem cdStep_midTick {p : Int} {gpsValid : Bool} {r : State × Bool} (h : cdStep p gpsValid s = .ok r) :
    cdStep p gpsValid (s.midTick x es) = .ok (r.1.midTick x es, r.2) := by
  cases gpsValid with
  | false => obtain rfl := Except.ok.inj h; rfl
  | true =>
    obtain ⟨u, a, hfilter⟩ : ∃ u a, jumpFilter p s = (u, a) := ⟨_, _, rfl⟩
    have hfilter' : jumpFilter p (s.midTick x es) = (u.midTick x es, a) := by
      rw [jumpFilter_midTick, hfilter]; rfl
    cases hneeds : needsResync u a with
    | true =>
      rw [cdStep_of_needsResync hfilter hneeds] at h
      obtain rfl := Except.ok.inj h
      rw [cdStep_of_needsResync hfilter' hneeds, resync_midTick]
    | false =>
      cases hfault : steerFault u with
      | some e => rw [cdStep_of_fault hfilter hneeds hfault] at h; cases h
      | none =>
        rw [cdStep_of_accepted hfilter hneeds hfault] at h
        obtain rfl := Except.ok.inj h
        rw [cdStep_of_accepted hfilter' hneeds hfault, steer_midTick]

end

/-! ## The tick with and without a pending sample (R164, R165) -/

/-- The state in which the step of SECOND_TICK finds the block: the date advanced, then HealthMonitor aged (R164). -/
def tickAged (s : State) : State := hmAge (tbAdvance s.start)

theorem tickAged_keeps (s : State) : (tickAged s).gd = s.gd ∧ (tickAged s).sys = s.sys ∧ (tickAged s).cfg = s.cfg ∧
    (tickAged s).resp = ⟨.ok, 0, 0⟩ := by
  simp [tickAged]

/-- Aging makes a rate request on its way into HOLDOVER only (R127). -/
theorem tickAged_oscIdx (h : (tickAged s).hm.system ≠ .holdover) : (tickAged s).oscIdx = 0 := by
  unfold tickAged hmAge at h ⊢
  dsimp only at h ⊢
  rw [hmUpdate_system] at h
  rw [hmUpdate_oscIdx, if_neg fun henters => h henters.1]
  simp

/-- The same tick without a capture. -/
theorem exec_secondTick_without_sample
    (h : exec .secondTick { s with sys := { s.sys with pendingValid := false } } = .next v) :
    v = ((tickAged s).midTick { s.sys with pendingValid := false } []).answer 0 0 := by
  rw [exec_secondTick_of_no_sample rfl] at h
  cases h
  rw [tickAged, ← hmAge_midTick, ← tbAdvance_midTick]
  rfl

/-- The tick on a pending sample: what the gated step leaves, the sample used up. -/
theorem exec_secondTick_of_sample {r : State × Bool} (h : s.sys.pendingValid = true)
    (hr : tickStep (tickAged s) = .ok r) : exec .secondTick s =
      .next ((r.1.withSys { r.1.sys with pendingValid := false }).answer (wrap64 (boolCode r.2)) 0) := by
  obtain ⟨-, hsys, -⟩ := tickAged_keeps s
  unfold tickAged at hr hsys
  simp only [exec, execSecondTick, hsys, h, if_true, hr]

/-- Settles O33: the gate reads the aged HealthMonitor and CFG, which no part of the tick before it writes. -/
theorem tickGateRefuses : Obligations.TickGateRefuses := by
  intro s v hpending hv hgate
  obtain rfl := exec_secondTick_without_sample hv
  obtain ⟨-, hsys, hcfg, -⟩ := tickAged_keeps s
  have hskip : tickStep (tickAged s) = .ok (countSkipped (tickAged s), false) := by
    rw [← hcfg, State.answer_hm, State.midTick_hm, ← shouldRunDiscipline_iff, ← Bool.and_eq_true] at hgate
    exact if_neg hgate
  refine ⟨_, exec_secondTick_of_sample hpending hskip, ?_⟩
  rw [State.answer_cd, State.midTick_cd, ← wrapAdd32_one, ← hsys]
  generalize tickAged s = aged
  rfl

/-- Settles O34: the gate is open, so aging made no rate request and the step starts as CD_STEP does in `v`, but for the
sample and the events of the aging. -/
theorem tickRunsTheStep : Obligations.TickRunsTheStep := by
  intro s v w hpending hv henable hgate hw
  have hv := exec_secondTick_without_sample hv
  obtain ⟨hgd, hsys, hcfg, hresp⟩ := tickAged_keeps s
  obtain ⟨r, hr, rfl⟩ := exec_cdStep_next hw
  have hhm : v.hm = (tickAged s).hm := by simp [hv]
  have hrequests : (tickAged s).oscIdx = 0 :=
    tickAged_oscIdx fun hholdover => by simp [hhm, hholdover] at hgate
  have haged : v.start.midTick s.sys v.events = tickAged s := by
    rw [hv]
    simp only [State.midTick, State.start, State.answer, List.nil_append, List.append_nil, ← hrequests, ← hresp, ← hsys]
  have hran : tickStep (tickAged s) = .ok (r.1.midTick s.sys v.events, r.2) := by
    have hopen : ((tickAged s).cfg.disciplineEnable && shouldRunDiscipline (tickAged s).hm) = true := by
      rw [Bool.and_eq_true, hcfg, ← hhm]
      exact ⟨henable, (shouldRunDiscipline_iff _).mpr hgate⟩
    rw [tickStep, if_pos hopen, hsys, hgd, ← haged]
    exact cdStep_midTick s.sys v.events hr
  have hused : r.1.sys = { s.sys with pendingValid := false } := by
    obtain ⟨-, -, hkept, -⟩ := cdStep_keeps hr
    simp [hkept, hv]
  rw [exec_secondTick_of_sample hpending hran]
  simp only [State.midTick, State.withSys, State.answer, ← hused]

end Sys2Proof.Machine

/-! SUPPORT. Rejections (spec/60_exceptions.md): which words decode to no command (R56, R172), which command an
operand makes the block reject (R173), and what a rejection leaves alone (R174). -/

namespace Sys2Proof

/-! ## Reserved opcodes (R56, R172) -/

/-- The op values that R56 reserves: the gaps of the opcode map. -/
def isReservedOpcode (op : Nat) : Prop :=
  (0x02 ≤ op ∧ op ≤ 0x0F) ∨ (0x13 ≤ op ∧ op ≤ 0x1F) ∨ (0x26 ≤ op ∧ op ≤ 0x2F) ∨ (0x39 ≤ op ∧ op ≤ 0x3F) ∨
    (0x43 ≤ op ∧ op ≤ 0x4F) ∨ (0x53 ≤ op ∧ op ≤ 0xFF)

/-- No command has a reserved opcode (R55, R56). -/
theorem Instr.opcode_not_reserved (i : Instr) : ¬ isReservedOpcode i.opcode.toNat := by
  unfold isReservedOpcode
  cases i <;> simp only [Instr.opcode] <;> decide

/-- The one reason a word is no command is its own op field (R56, R57). -/
theorem decode_error {w : CmdWord} {e : DecodeError} (h : decode w = .error e) : e = .reservedOpcode (opField w) := by
  unfold decode decodeFields at h
  split at h <;> cases h
  rfl

/-- A word with a reserved opcode is no command, whatever its operand fields hold (R56). -/
theorem decode_of_reserved {w : CmdWord} (h : isReservedOpcode (opField w).toNat) :
    decode w = .error (.reservedOpcode (opField w)) := by
  cases hdecode : decode w with
  | ok i =>
    obtain ⟨hop, -, -⟩ := encode_of_decodeFields hdecode
    exact absurd (hop ▸ h) i.opcode_not_reserved
  | error e => rw [decode_error hdecode]

end Sys2Proof

namespace Sys2Proof.Machine

variable {s : State} {q : Request} {rest : List Request} {i : Instr}

/-- Taking a request and rejecting its command changes no register and neither store (R174). -/
theorem State.keepsBlock_accept_reject (s : State) (q : Request) (rest : List Request) (st : Status) :
    s.KeepsBlock ((s.accept q rest).reject st) := by
  simp [State.KeepsBlock]

/-- Settles O5: no command has an opcode of the six ranges, so the word does not decode and the step rejects it. -/
theorem reservedOpcodeIsRejected : Obligations.ReservedOpcodeIsRejected := by
  rintro s q rest _ hlegal hpending rfl hreserved
  have hstep := step_of_decode_reserved hlegal hpending (decode_of_reserved hreserved)
  exact ⟨_, hstep, by simp, by simp, s.keepsBlock_accept_reject q rest _, by simp, by simp, by simp⟩

/-! ## The table of R173 -/

/-- A command that R173's table rejects runs no part of its rule: the block answers ERR_RANGE (R173). -/
theorem exec_of_rangeRejects (h : rangeRejects i s) : exec i s = .next (s.reject .errRange) := by
  cases i with
  | nop | reset | secondTick | gpsFeed | tbAdvance | tbToUnix | tbGetDate | hmResetGpsWdt | hmResetFllWdt | hmUpdate
  | hmShouldRun | hmGetStatus | cdEnterHoldover | cdLeaveHoldover | cdStep => exact h.elim
  | ppsCapture tick | tbSetDate week off tow | tbTickToNs tick | tbToNtp tick fudge | readPb addr => exact if_pos h
  | hmSetOsc code => simp only [exec, execHmSetOsc, (ofCode?_eq_none_iff (show 1 ≤ 2 by decide)).mpr h]
  | hmSetGps code => simp only [exec, execHmSetGps, (ofCode?_eq_none_iff (le_refl 2)).mpr h]
  | hmSetPll code => simp only [exec, execHmSetPll, (ofCode?_eq_none_iff (show 1 ≤ 2 by decide)).mpr h]
  | hmSetFll code => simp only [exec, execHmSetFll, (ofCode?_eq_none_iff (show 1 ≤ 2 by decide)).mpr h]
  | cfgWrite reg value => simp only [exec, execCfgWrite, (cfgSet_eq_none_iff reg value s.start).mpr h]
  | readReg reg =>
    obtain ⟨hunlisted, hnoEntry⟩ := h
    have hnone : Reg.ofNumber? reg = none := by rwa [← Option.not_isSome_iff_eq_none, ofNumber?_isSome_iff]
    simp only [exec, execReadReg, hnone, if_neg hnoEntry]

/-- R173's table reads no environment input (R17, R174). -/
theorem rangeRejects_env (i : Instr) (s : State) (e : EnvInputs) :
    rangeRejects i { s with env := e } ↔ rangeRejects i s := by
  cases i <;> exact Iff.rfl

/-- Settles O10: with either status the answer is `State.reject` of a state that has the inputs in one field only, and
neither test, R173's or the decoder's, reads that field. -/
theorem rejectedCommandHasNoEffect : Obligations.RejectedCommandHasNoEffect := by
  refine ⟨fun s i hrejects => ?range, fun s q rest op hlegal hpending hdecode => ?opcode⟩
  case range =>
    obtain ⟨hblock, hhost⟩ := s.keeps_reject .errRange
    exact ⟨_, exec_of_rangeRejects hrejects, by simp, by simp, hblock, hhost, fun e =>
      exec_of_rangeRejects ((rangeRejects_env i s e).mpr hrejects)⟩
  case opcode =>
    exact ⟨_, step_of_decode_reserved hlegal hpending hdecode, by simp, by simp, s.keepsBlock_accept_reject q rest _,
      fun e => step_of_decode_reserved (s := { s with pending := { q with env := e } :: rest }) hlegal rfl hdecode⟩

end Sys2Proof.Machine
